-- ==== Sys2Proof/Word.lean ====
section
/-! DEFINITION. The word types of the H5 link engine: everything on its ports and in its storage is a byte or a
field of a byte (spec/00_scope.md R15, spec/20_memory.md R56). -/

namespace Sys2Proof

/-- One byte of the receive port, the transmit port, the frame buffer or a FIFO slot (R56). -/
abbrev Byte := BitVec 8

/-- A sequence number, an acknowledgement number or a window: 3 bits, counted modulo 8 (R11, R27). -/
abbrev Seq := BitVec 3

/-- The packet type code, `h1[3:0]` (R73, R75). -/
abbrev PacketType := BitVec 4

/-- The length field of the header, 12 bits (R53, R73). -/
abbrev Length := BitVec 12

end Sys2Proof
end

