-- ==== Sys2Proof/Config.lean ====
section
/-! DEFINITION. What an implementation of the engine fixes (spec/00_scope.md section 4, R8 to R13), and the reserved
byte values of the SLIP layer (spec/30_encoding.md R70). `ADV_WIN` and `RX_LENGTH_POLICY` are the spec's two OPEN
parameters: they are constants without a body, so that nothing can be proved of the value they have. -/

namespace Sys2Proof

/-- What a receiver does with a frame whose byte count disagrees with its length field (R13): drop it, or take every
byte after the header as the payload. -/
inductive RxLengthPolicy where
  | exact
  | ignore
deriving DecidableEq, Repr, Inhabited

namespace Config

/-- The frame delimiter `END` (R70). -/
abbrev slipEnd : Byte := 0xC0
/-- The escape `ESC` (R70). -/
abbrev slipEsc : Byte := 0xDB
/-- `ESC_END`: after `ESC` it stands for 0xC0 (R70). -/
abbrev slipEscEnd : Byte := 0xDC
/-- `ESC_ESC`: after `ESC` it stands for 0xDB (R70). -/
abbrev slipEscEsc : Byte := 0xDD

/-- `FIFO_DEPTH` (R8). -/
abbrev fifoDepth : Nat := 10
/-- `OOO_THRESHOLD` (R9). -/
abbrev oooThreshold : Nat := 3
/-- `MAX_PAYLOAD` (R10). -/
abbrev maxPayload : Nat := 4095
/-- `MAX_FRAME`: header and payload (R10). -/
abbrev maxFrame : Nat := 4099

/-- The OPEN parameter behind `ADV_WIN` (R12): which of the seven values 1 to 7 this block advertises. No body:
every statement holds for each of the seven (log entry 1). -/
opaque advWinIndex : Fin 7

/-- `ADV_WIN`, in [1,7] (R12). -/
def advWin : Seq := BitVec.ofNat 3 (advWinIndex.val + 1)

/-- The OPEN parameter `RX_LENGTH_POLICY` (R13). No body: every statement holds for both policies (log entry 2). -/
opaque rxLengthPolicy : RxLengthPolicy

end Config

end Sys2Proof
end

