-- ==== Sys2Proof/Syntax.lean ====
section
/-! DEFINITION. The instructions: one constructor per row of spec/opcode_table.json, in the table's order. The table
has five formats (spec/30_encoding.md): a received byte in its parser context, a transmitted escape sequence, a
frame by its packet type, a link-control payload by its signature, and a command. -/

namespace Sys2Proof

/-- The parser context that selects the row of a received byte: `rx_mode`, and `esc` inside a frame
(spec/40_slip.md section 2). -/
inductive RxContext where
  | hunt
  | inFrame (esc : Bool)
deriving DecidableEq, Repr

/-- The header fields of a frame but for the packet type, which the instruction itself gives (R72 to R74). The
checksum is the byte as received; the length is the field as received. -/
structure FrameHeader where
  reliable   : Bool
  crcPresent : Bool
  ack        : Seq
  seq        : Seq
  length     : Length
  checksum   : Byte
deriving DecidableEq, Repr

/-- One transaction of the command port (R84): the 3-bit op and its operands. -/
structure Command where
  op      : BitVec 3
  ptype   : PacketType
  payload : List Byte
deriving DecidableEq, Repr

/-- One constructor per row of spec/opcode_table.json. A frame carries its payload, a link-control message the bytes
after its signature. -/
inductive Instr where
  /-- `RXB END (rx_mode=HUNT)`, R103 -/
  | rxbEndHunt
  /-- `RXB other (rx_mode=HUNT)`, R103 -/
  | rxbOtherHunt (b : Byte)
  /-- `RXB ESC (IN_FRAME, esc=0)`, R104 -/
  | rxbEsc
  /-- `RXB ESC_END (IN_FRAME, esc=1)`, R105 -/
  | rxbEscEnd
  /-- `RXB ESC_ESC (IN_FRAME, esc=1)`, R105 -/
  | rxbEscEsc
  /-- `RXB bad escape (IN_FRAME, esc=1)`, R105 -/
  | rxbBadEscape (b : Byte)
  /-- `RXB END (IN_FRAME, esc=0)`, R107 -/
  | rxbEndFrame
  /-- `RXB data (IN_FRAME, esc=0)`, R108 -/
  | rxbData (b : Byte)
  /-- `TX stuff END`, R100 -/
  | txStuffEnd
  /-- `TX stuff ESC`, R100 -/
  | txStuffEsc
  /-- `FRAME ACK`, R140, R152 -/
  | frameAck (h : FrameHeader) (p : List Byte)
  /-- `FRAME COMMAND`, R140, R152 -/
  | frameCommand (h : FrameHeader) (p : List Byte)
  /-- `FRAME ACL`, R140, R152, R190 -/
  | frameAcl (h : FrameHeader) (p : List Byte)
  /-- `FRAME SCO`, R140, R152, R190 -/
  | frameSco (h : FrameHeader) (p : List Byte)
  /-- `FRAME EVENT`, R140, R152, R190 -/
  | frameEvent (h : FrameHeader) (p : List Byte)
  /-- `FRAME ISO`, R140, R152, R190 -/
  | frameIso (h : FrameHeader) (p : List Byte)
  /-- `FRAME LINK_CONTROL`, R140, R152, R160 -/
  | frameLinkControl (h : FrameHeader) (p : List Byte)
  /-- `FRAME reserved type`, R76, R140, R152 -/
  | frameReserved (t : PacketType) (h : FrameHeader) (p : List Byte)
  /-- `LC SYNC_REQ`, R163 -/
  | lcSyncReq (rest : List Byte)
  /-- `LC SYNC_RESP`, R164 -/
  | lcSyncResp (rest : List Byte)
  /-- `LC CONFIG_REQ`, R166 -/
  | lcConfigReq (rest : List Byte)
  /-- `LC CONFIG_RESP`, R167 -/
  | lcConfigResp (rest : List Byte)
  /-- `LC SLEEP_REQ`, R168 -/
  | lcSleepReq (rest : List Byte)
  /-- `LC WOKEN_REQ`, R169 -/
  | lcWokenReq (rest : List Byte)
  /-- `LC WAKEUP_REQ`, R170 -/
  | lcWakeupReq (rest : List Byte)
  /-- `LC unknown`, R172 -/
  | lcUnknown (p : List Byte)
  /-- `RESET`, R211 -/
  | cmdReset
  /-- `START`, R212 -/
  | cmdStart
  /-- `STOP`, R213 -/
  | cmdStop
  /-- `SEND`, R214 to R216 -/
  | cmdSend (t : PacketType) (p : List Byte)
  /-- `POP`, R193, R194 -/
  | cmdPop
  /-- reserved op 5, R237 -/
  | reservedOp101
  /-- reserved op 6, R237 -/
  | reservedOp110
  /-- reserved op 7, R237 -/
  | reservedOp111
deriving DecidableEq, Repr

end Sys2Proof
end

