-- ==== Sys2Proof/WellFormed.lean ====
section
/-! DEFINITION. Which instructions an encoding exists for: the byte classes of spec/30_encoding.md R70, the payload
bound of R10, the reserved packet types of R76 and the unmatched signatures of R77. -/

namespace Sys2Proof

/-- Packet type codes 0x6 to 0xE, which no source names (R76). -/
def isReservedType (t : PacketType) : Bool := decide (6 ≤ t.toNat) && decide (t.toNat ≤ 14)

/-- The first two bytes are one of the seven signatures (R77). -/
def isKnownSignature : List Byte → Bool
  | a :: b :: _ =>
    (a, b) ∈ ([(0x01, 0x7E), (0x02, 0x7D), (0x03, 0xFC), (0x04, 0x7B), (0x05, 0xFA), (0x06, 0xF9), (0x07, 0x78)] :
      List (Byte × Byte))
  | _ => false

/-- A frame's payload fits the frame buffer (R10, R34). -/
def payloadFits (p : List Byte) : Bool := decide (p.length ≤ Config.maxPayload)

/-- A link-control message's bytes after its signature fit with it (R10, R77). -/
def trailerFits (rest : List Byte) : Bool := decide (rest.length + 2 ≤ Config.maxPayload)

/-- The instruction is one its format can encode. A SEND of any payload length is encodable: the length is checked
when it runs (R84, R214). -/
def Instr.wf : Instr → Bool
  | .rxbEndHunt => true
  | .rxbOtherHunt b => b != Config.slipEnd
  | .rxbEsc => true
  | .rxbEscEnd => true
  | .rxbEscEsc => true
  | .rxbBadEscape b => b != Config.slipEscEnd && b != Config.slipEscEsc
  | .rxbEndFrame => true
  | .rxbData b => b != Config.slipEnd && b != Config.slipEsc
  | .txStuffEnd => true
  | .txStuffEsc => true
  | .frameAck _ p => payloadFits p
  | .frameCommand _ p => payloadFits p
  | .frameAcl _ p => payloadFits p
  | .frameSco _ p => payloadFits p
  | .frameEvent _ p => payloadFits p
  | .frameIso _ p => payloadFits p
  | .frameLinkControl _ p => payloadFits p
  | .frameReserved t _ p => isReservedType t && payloadFits p
  | .lcSyncReq rest => trailerFits rest
  | .lcSyncResp rest => trailerFits rest
  | .lcConfigReq rest => trailerFits rest
  | .lcConfigResp rest => trailerFits rest
  | .lcSleepReq rest => trailerFits rest
  | .lcWokenReq rest => trailerFits rest
  | .lcWakeupReq rest => trailerFits rest
  | .lcUnknown p => !isKnownSignature p && payloadFits p
  | .cmdReset => true
  | .cmdStart => true
  | .cmdStop => true
  | .cmdSend _ _ => true
  | .cmdPop => true
  | .reservedOp101 => true
  | .reservedOp110 => true
  | .reservedOp111 => true

end Sys2Proof
end

