-- ==== Sys2Proof/Decode.lean ====
section
/-! DEFINITION. The decoder, total on any word of the five formats of spec/30_encoding.md, rejecting by name; the
encoder after it; and the opcode table's own numbering of the words. -/

namespace Sys2Proof

/-- A word of one of the five formats. A received byte comes with the parser context it arrives in: the same byte
is a different row of the table in another context (spec/40_slip.md section 2). -/
inductive Encoded where
  | rxByte (ctx : RxContext) (b : Byte)
  | txSequence (bs : List Byte)
  | frame (f : List Byte)
  | lcPayload (p : List Byte)
  | command (c : Command)
deriving DecidableEq, Repr

/-- Why a word is no instruction. -/
inductive DecodeError where
  /-- A transmitted sequence other than `DB DC` and `DB DD`: no row of the table (R70, R100). -/
  | notAnEscapeSequence
  /-- A frame of fewer than four bytes has no header (R141). -/
  | runtFrame
deriving DecidableEq, Repr

/-- What decoding a word gives. -/
inductive Decoded where
  | instr (i : Instr)
  | reject (e : DecodeError)
deriving DecidableEq, Repr

/-- The row of a received byte (R103, R104, R105, R107, R108). -/
def decodeRxByte (ctx : RxContext) (b : Byte) : Instr :=
  match ctx with
  | .hunt => if b = Config.slipEnd then .rxbEndHunt else .rxbOtherHunt b
  | .inFrame true =>
    if b = Config.slipEscEnd then .rxbEscEnd
    else if b = Config.slipEscEsc then .rxbEscEsc
    else .rxbBadEscape b
  | .inFrame false =>
    if b = Config.slipEsc then .rxbEsc
    else if b = Config.slipEnd then .rxbEndFrame
    else .rxbData b

/-- The row of a transmitted escape sequence (R70, R100). -/
def decodeTxSequence (bs : List Byte) : Decoded :=
  if bs = [Config.slipEsc, Config.slipEscEnd] then .instr .txStuffEnd
  else if bs = [Config.slipEsc, Config.slipEscEsc] then .instr .txStuffEsc
  else .reject .notAnEscapeSequence

/-- `packet_type = h1[3:0]` (R73, R80). -/
def packetTypeOf (h1 : Byte) : PacketType := h1.extractLsb' 0 4

/-- The header fields of the four header bytes (R72, R73, R80). -/
def headerOf (h0 h1 h2 h3 : Byte) : FrameHeader where
  reliable := h0.getLsbD 7
  crcPresent := h0.getLsbD 6
  ack := h0.extractLsb' 3 3
  seq := h0.extractLsb' 0 3
  length := h2 ++ h1.extractLsb' 4 4
  checksum := h3

/-- Header byte 0: `reliable`, `crc_present`, `ack`, `seq` from bit 7 down (R72). -/
def headerByte0 (h : FrameHeader) : Byte := BitVec.ofBool h.reliable ++ BitVec.ofBool h.crcPresent ++ h.ack ++ h.seq

/-- Header byte 1: the low nibble of the length over the packet type (R73). -/
def headerByte1 (t : PacketType) (h : FrameHeader) : Byte := h.length.extractLsb' 0 4 ++ t

/-- Header byte 2: the high byte of the length (R73). -/
def headerByte2 (h : FrameHeader) : Byte := h.length.extractLsb' 4 8

/-- The four header bytes, in wire order (R52, R72 to R74). -/
def headerBytes (t : PacketType) (h : FrameHeader) : List Byte :=
  [headerByte0 h, headerByte1 t h, headerByte2 h, h.checksum]

/-- The packet types that have a row of their own, and the reserved ones (R75, R76). -/
inductive PacketClass where
  | ack
  | command
  | acl
  | sco
  | event
  | iso
  | linkControl
  | reserved (t : PacketType)
deriving DecidableEq, Repr

/-- The class of a packet type code (R75). -/
def packetClass (t : PacketType) : PacketClass :=
  if t = 0 then .ack
  else if t = 1 then .command
  else if t = 2 then .acl
  else if t = 3 then .sco
  else if t = 4 then .event
  else if t = 5 then .iso
  else if t = 15 then .linkControl
  else .reserved t

/-- The frame instruction of a packet class (spec/opcode_table.json, format `frame_header`). -/
def frameInstr (c : PacketClass) (h : FrameHeader) (p : List Byte) : Instr :=
  match c with
  | .ack => .frameAck h p
  | .command => .frameCommand h p
  | .acl => .frameAcl h p
  | .sco => .frameSco h p
  | .event => .frameEvent h p
  | .iso => .frameIso h p
  | .linkControl => .frameLinkControl h p
  | .reserved t => .frameReserved t h p

/-- The row of an unstuffed frame: four header bytes, then the payload (R80, R81). Every bit pattern of the header
decodes (R124); whether the checksum and the length hold is the pipeline's question (R140). -/
def decodeFrame (f : List Byte) : Decoded :=
  match f with
  | h0 :: h1 :: h2 :: h3 :: p => .instr (frameInstr (packetClass (packetTypeOf h1)) (headerOf h0 h1 h2 h3) p)
  | _ => .reject .runtFrame

/-- A link-control message with the bytes after its signature, or a payload that has none (R77). -/
inductive LcMessage where
  | syncReq (rest : List Byte)
  | syncResp (rest : List Byte)
  | configReq (rest : List Byte)
  | configResp (rest : List Byte)
  | sleepReq (rest : List Byte)
  | wokenReq (rest : List Byte)
  | wakeupReq (rest : List Byte)
  | unknown (p : List Byte)
deriving DecidableEq, Repr

/-- Match the first two bytes only (R77, R160). -/
def lcMessage (p : List Byte) : LcMessage :=
  match p with
  | a :: b :: rest =>
    if a = 0x01 ∧ b = 0x7E then .syncReq rest
    else if a = 0x02 ∧ b = 0x7D then .syncResp rest
    else if a = 0x03 ∧ b = 0xFC then .configReq rest
    else if a = 0x04 ∧ b = 0x7B then .configResp rest
    else if a = 0x05 ∧ b = 0xFA then .sleepReq rest
    else if a = 0x06 ∧ b = 0xF9 then .wokenReq rest
    else if a = 0x07 ∧ b = 0x78 then .wakeupReq rest
    else .unknown (a :: b :: rest)
  | short => .unknown short

/-- The instruction of a link-control message (spec/opcode_table.json, format `lc_payload`). -/
def lcInstr : LcMessage → Instr
  | .syncReq rest => .lcSyncReq rest
  | .syncResp rest => .lcSyncResp rest
  | .configReq rest => .lcConfigReq rest
  | .configResp rest => .lcConfigResp rest
  | .sleepReq rest => .lcSleepReq rest
  | .wokenReq rest => .lcWokenReq rest
  | .wakeupReq rest => .lcWakeupReq rest
  | .unknown p => .lcUnknown p

/-- The row of a link-control payload (R160). -/
def decodeLcPayload (p : List Byte) : Instr := lcInstr (lcMessage p)

/-- The row of a command port transaction (R84). Only SEND has operands; an op 5, 6 or 7 takes any. -/
def decodeCommand (c : Command) : Instr :=
  if c.op = 0 then .cmdReset
  else if c.op = 1 then .cmdStart
  else if c.op = 2 then .cmdStop
  else if c.op = 3 then .cmdSend c.ptype c.payload
  else if c.op = 4 then .cmdPop
  else if c.op = 5 then .reservedOp101
  else if c.op = 6 then .reservedOp110
  else .reservedOp111

/-- The decoder. -/
def decode (e : Encoded) : Decoded :=
  match e with
  | .rxByte ctx b => .instr (decodeRxByte ctx b)
  | .txSequence bs => decodeTxSequence bs
  | .frame f => decodeFrame f
  | .lcPayload p => .instr (decodeLcPayload p)
  | .command c => .instr (decodeCommand c)

/-- An unstuffed frame of a packet type (R71, R72 to R74). -/
def encodeFrame (t : PacketType) (h : FrameHeader) (p : List Byte) : Encoded := .frame (headerBytes t h ++ p)

/-- A command whose op takes no operand (R84). -/
def encodeOp (op : BitVec 3) : Encoded := .command { op := op, ptype := 0, payload := [] }

/-- The encoder: the word of a well-formed instruction, from the tables of R70 to R77 and R84. -/
def encode (i : Instr) : Encoded :=
  match i with
  | .rxbEndHunt => .rxByte .hunt Config.slipEnd
  | .rxbOtherHunt b => .rxByte .hunt b
  | .rxbEsc => .rxByte (.inFrame false) Config.slipEsc
  | .rxbEscEnd => .rxByte (.inFrame true) Config.slipEscEnd
  | .rxbEscEsc => .rxByte (.inFrame true) Config.slipEscEsc
  | .rxbBadEscape b => .rxByte (.inFrame true) b
  | .rxbEndFrame => .rxByte (.inFrame false) Config.slipEnd
  | .rxbData b => .rxByte (.inFrame false) b
  | .txStuffEnd => .txSequence [Config.slipEsc, Config.slipEscEnd]
  | .txStuffEsc => .txSequence [Config.slipEsc, Config.slipEscEsc]
  | .frameAck h p => encodeFrame 0 h p
  | .frameCommand h p => encodeFrame 1 h p
  | .frameAcl h p => encodeFrame 2 h p
  | .frameSco h p => encodeFrame 3 h p
  | .frameEvent h p => encodeFrame 4 h p
  | .frameIso h p => encodeFrame 5 h p
  | .frameLinkControl h p => encodeFrame 15 h p
  | .frameReserved t h p => encodeFrame t h p
  | .lcSyncReq rest => .lcPayload (0x01 :: 0x7E :: rest)
  | .lcSyncResp rest => .lcPayload (0x02 :: 0x7D :: rest)
  | .lcConfigReq rest => .lcPayload (0x03 :: 0xFC :: rest)
  | .lcConfigResp rest => .lcPayload (0x04 :: 0x7B :: rest)
  | .lcSleepReq rest => .lcPayload (0x05 :: 0xFA :: rest)
  | .lcWokenReq rest => .lcPayload (0x06 :: 0xF9 :: rest)
  | .lcWakeupReq rest => .lcPayload (0x07 :: 0x78 :: rest)
  | .lcUnknown p => .lcPayload p
  | .cmdReset => encodeOp 0
  | .cmdStart => encodeOp 1
  | .cmdStop => encodeOp 2
  | .cmdSend t p => .command { op := 3, ptype := t, payload := p }
  | .cmdPop => encodeOp 4
  | .reservedOp101 => encodeOp 5
  | .reservedOp110 => encodeOp 6
  | .reservedOp111 => encodeOp 7

/-- The instruction a decoding gives, if it gives one. -/
def Decoded.toOption : Decoded → Option Instr
  | .instr i => some i
  | .reject _ => none

/-- The parser context in which the opcode table's row of a received byte stands, where the byte alone does not say
it: 0xDB is taken inside a frame, 0xDC and 0xDD after an escape, every other byte (0xC0 too) in HUNT (log
entry 5). -/
def tableContext (b : Byte) : RxContext :=
  if b = Config.slipEsc then .inFrame false
  else if b = Config.slipEscEnd ∨ b = Config.slipEscEsc then .inFrame true
  else .hunt

/-- Byte number `k` of a table word of `n` bytes: the table writes a pattern in wire order and numbers it as one
number, so the first byte on the wire is the most significant (spec/98_reader.md; log entry 5). -/
def tableByte (n k w : Nat) : Byte := BitVec.ofNat 8 (w >>> (8 * (n - 1 - k)))

/-- The word of a format that the opcode table writes with `nbits` bits: 8 a received byte, 16 a transmitted escape
sequence or a signature, 24 a signature and its window byte, 32 a frame header (whose payload is the zero bytes its
length field counts), 3 a command's op and 7 SEND's op and packet type (R84; log entry 5). -/
def tableEncoded (nbits w : Nat) : Option Encoded :=
  if nbits = 8 then some (.rxByte (tableContext (tableByte 1 0 w)) (tableByte 1 0 w))
  else if nbits = 16 then
    if w = 0xDBDC ∨ w = 0xDBDD then some (.txSequence [tableByte 2 0 w, tableByte 2 1 w])
    else some (.lcPayload [tableByte 2 0 w, tableByte 2 1 w])
  else if nbits = 24 then some (.lcPayload [tableByte 3 0 w, tableByte 3 1 w, tableByte 3 2 w])
  else if nbits = 32 then
    let h := headerOf (tableByte 4 0 w) (tableByte 4 1 w) (tableByte 4 2 w) (tableByte 4 3 w)
    some (.frame ([tableByte 4 0 w, tableByte 4 1 w, tableByte 4 2 w, tableByte 4 3 w] ++
      List.replicate h.length.toNat 0))
  else if nbits = 3 then some (.command { op := BitVec.ofNat 3 w, ptype := 0, payload := [] })
  else if nbits = 7 then some (.command { op := BitVec.ofNat 3 (w >>> 4), ptype := BitVec.ofNat 4 w, payload := [] })
  else none

/-- The instruction the decoder reads from a table word. -/
def decodeTableWord (nbits w : Nat) : Option Instr :=
  match tableEncoded nbits w with
  | some e => (decode e).toOption
  | none => none

end Sys2Proof
end

