-- ==== Sys2Proof/Machine/State.lean ====
section
/-! DEFINITION. The state of the engine as plain data: every register of spec/10_state.md R22 to R35, the model marks
of R36, the observation streams of R37, and what the three agents of R14 have pending at the ports. Its reset value
is that of R211, R260 and R261. -/

namespace Sys2Proof.Machine

/-- `link_state` (R22). -/
inductive LinkState where
  | uninit
  | init
  | active
deriving DecidableEq, Repr

/-- The encoding of `link_state` in its two bits; the value 3 is never written (R22). -/
def LinkState.bits : LinkState → BitVec 2
  | .uninit => 0
  | .init => 1
  | .active => 2

/-- `sleep_state` (R23). -/
inductive SleepState where
  | awake
  | sleeping
deriving DecidableEq, Repr

/-- `rx_mode` (R32). -/
inductive RxMode where
  | hunt
  | inFrame
deriving DecidableEq, Repr

/-- The records of the event stream (R230). -/
inductive EventCode where
  | eBadEscape
  | eOversize
  | eRunt
  | wChecksum
  | eLength
  | wNotActive
  | wOutOfOrder
  | iResync
  | eFifoFull
  | dUnknownLc
  | evInitComplete
deriving DecidableEq, Repr

/-- The code of a record (R230). -/
def EventCode.code : EventCode → Byte
  | .eBadEscape => 0x01
  | .eOversize => 0x02
  | .eRunt => 0x03
  | .wChecksum => 0x04
  | .eLength => 0x05
  | .wNotActive => 0x06
  | .wOutOfOrder => 0x07
  | .iResync => 0x08
  | .eFifoFull => 0x09
  | .dUnknownLc => 0x0A
  | .evInitComplete => 0x10

/-- The level of a record (R230). -/
inductive EventLevel where
  | error
  | warn
  | info
  | debug
  | notification
deriving DecidableEq, Repr

/-- The level the table of R230 gives a record. -/
def EventCode.level : EventCode → EventLevel
  | .eBadEscape => .error
  | .eOversize => .error
  | .eRunt => .error
  | .wChecksum => .warn
  | .eLength => .error
  | .wNotActive => .warn
  | .wOutOfOrder => .warn
  | .iResync => .info
  | .eFifoFull => .error
  | .dUnknownLc => .debug
  | .evInitComplete => .notification

/-- What POP delivers (R85). -/
structure Delivery where
  packetType : PacketType
  payload    : List Byte
deriving DecidableEq, Repr

/-- The three agents (R14). -/
inductive Agent where
  | intake
  | host
  | consumer
deriving DecidableEq, Repr

/-- The codes of `raise Fault(code)` (R17, R236). A raised fault sets its sticky mark and the machine goes on, so no
step ends in one. -/
inductive Fault where
  /-- `F_SEND_LENGTH`: SEND with a payload over 4095 bytes raises it (R214). Safe: the mark is set, nothing is sent,
  and a claim takes the mark clear as a premise (R238). -/
  | sendLength
deriving DecidableEq, Repr

/-- The codes of `Refuse(code)` (R17, R237). A refused command sets the mark `refused` and the machine goes on, so no
step ends in one. -/
inductive Refusal where
  /-- An instruction the model gives no meaning. No arm raises it: every instruction has one. Safe. -/
  | notModelled (mnemonic : String)
  /-- A command whose op is 5, 6 or 7 (R84, R237): the three reserved ops raise it. Safe: the mark is set and nothing
  else changes. -/
  | reservedOp (op : BitVec 3)
deriving DecidableEq, Repr

/-- The storage of `rx_buf`: (index, byte) pairs in one canonical form (R34). -/
abbrev Memory := List Host.Cell

/-- What a byte of `rx_buf` that nothing has written holds. The spec leaves the contents after power-on open and
never reads them (R34; log entry 3). -/
def blankByte : Byte := 0

/-- Indices strictly rise from `lo`, stay under 4099, and no entry is a blank byte. -/
def Memory.wfFrom : Nat → Memory → Bool
  | _, [] => true
  | lo, (a, v) :: m =>
    decide (lo ≤ a) && decide (a < Config.maxFrame) && v != blankByte && Memory.wfFrom (a + 1) m

/-- The canonical form of `rx_buf`'s storage. -/
def Memory.wf (m : Memory) : Bool := Memory.wfFrom 0 m

/-- The state. -/
structure State where
  /-- `link_state` (R22) -/
  linkState : LinkState
  /-- `sleep_state` (R23) -/
  sleepState : SleepState
  /-- `tx_seq` (R24) -/
  txSeq : Seq
  /-- `tx_ack` (R25) -/
  txAck : Seq
  /-- `rx_ack` (R26) -/
  rxAck : Seq
  /-- `tx_win` (R27) -/
  txWin : Seq
  /-- `ooo_count` (R28) -/
  oooCount : BitVec 2
  /-- `ack_owed` (R29) -/
  ackOwed : Bool
  /-- `init_fired` (R30) -/
  initFired : Bool
  /-- `running` (R31) -/
  running : Bool
  /-- `rx_mode` (R32) -/
  rxMode : RxMode
  /-- `esc` (R33) -/
  esc : Bool
  /-- `rx_buf` (R34) -/
  rxBuf : Memory
  /-- `rx_len` (R34) -/
  rxLen : BitVec 13
  /-- The receiver frame FIFO, head first: each slot the bytes of one frame, its length the length tag (R35). -/
  fifo : List (List Byte)
  /-- The sticky mark `fault_send_length` (R36) -/
  faultSendLength : Bool
  /-- The sticky mark `obl_early_send` (R36) -/
  oblEarlySend : Bool
  /-- The sticky mark `refused` (R36) -/
  refused : Bool
  /-- The transmit stream (R37, R57) -/
  txStream : List Byte
  /-- The delivery stream (R37, R194) -/
  deliveries : List Delivery
  /-- The event stream (R37, R230) -/
  events : List EventCode
  /-- The model's own: bytes waiting at the receive port, in arrival order (R14, R219). -/
  rxPort : List Byte
  /-- The model's own: commands waiting at the command port, in program order (R14, R60). -/
  cmdPort : List Command
  /-- The model's own: POPs the consumer has issued and that have not been taken, a held one among them (R193). -/
  popRequests : Nat
  /-- The model's own: which agent moves next, and so on; any interleaving is some value of this field (R60, R65,
  R196; log entry 4). -/
  turns : List Agent
deriving DecidableEq, Repr

/-- The machine after power-on, which is the state RESET gives with the marks 0 and the streams empty (R211, R260,
R261), and with nothing pending at any port. -/
def State.reset : State where
  linkState := .uninit
  sleepState := .awake
  txSeq := 0
  txAck := 0
  rxAck := 0
  txWin := 1
  oooCount := 0
  ackOwed := false
  initFired := false
  running := false
  rxMode := .hunt
  esc := false
  rxBuf := []
  rxLen := 0
  fifo := []
  faultSendLength := false
  oblEarlySend := false
  refused := false
  txStream := []
  deliveries := []
  events := []
  rxPort := []
  cmdPort := []
  popRequests := 0
  turns := []

end Sys2Proof.Machine
end

