-- ==== Sys2Proof/Machine/Flags.lean ====
section
/-! DEFINITION. The conditions the rules test: the checksum (spec/41_header_checksum.md R120, R121), the length
check, the Active gate, the window validator and the resync threshold (spec/42_reliability.md R143 to R148), the
reliable bit of a sent frame (R127), the SEND checks (R214, R215), the POP enable and the data-available level
(spec/44_rx_fifo.md R193, R197). -/

namespace Sys2Proof.Machine

/-- `cks(h0, h1, h2) = ~(h0 + h1 + h2) & 0xFF`, the sum taken in the low 8 bits (R74, R120). -/
def cks (h0 h1 h2 : Byte) : Byte := ~~~(h0 + h1 + h2)

/-- A received header verifies (R121). -/
def headerVerifies (t : PacketType) (h : FrameHeader) : Bool :=
  cks (headerByte0 h) (headerByte1 t h) (headerByte2 h) == h.checksum

/-- `LINK_CONTROL` (R75). -/
abbrev linkControlType : PacketType := 0xF

/-- `ACK` (R75). -/
abbrev ackType : PacketType := 0

/-- The byte count of the frame is 4 plus its length field (R148). -/
def lengthAgrees (h : FrameHeader) (p : List Byte) : Bool := p.length == h.length.toNat

/-- The length check drops the frame: the count disagrees and the policy is EXACT (R13, R148). -/
def lengthDrops (h : FrameHeader) (p : List Byte) : Bool :=
  !lengthAgrees h p && decide (Config.rxLengthPolicy = .exact)

/-- The Active gate drops the frame: not ACTIVE, and not link control (R143). -/
def gateDrops (t : PacketType) (s : State) : Bool :=
  decide (s.linkState ≠ .active) && decide (t ≠ linkControlType)

/-- The window validator: the receive window is the single value `tx_ack` (R144). -/
def inWindow (h : FrameHeader) (s : State) : Bool := h.seq == s.txAck

/-- The out-of-order count after one more reaches the threshold (R145, R146). -/
def resyncDue (s : State) : Bool := decide (Config.oooThreshold ≤ s.oooCount.toNat + 1)

/-- `reliable` of a transmitted frame: 1 exactly for COMMAND and ACL (R127). -/
def sentReliable (t : PacketType) : Bool := t == 1 || t == 2

/-- SEND's payload is over the largest (R214). -/
def sendTooLong (p : List Byte) : Bool := decide (Config.maxPayload < p.length)

/-- A payload frame sent before the init-complete notification (R215). -/
def sendTooEarly (t : PacketType) (s : State) : Bool :=
  decide (t ≠ ackType) && decide (t ≠ linkControlType) && !s.initFired

/-- A POP has a step (R193). -/
def popEnabled (s : State) : Bool := s.running && !s.fifo.isEmpty

/-- The data-available level the block presents to the consumer (R197, R233). -/
def dataAvailable (s : State) : Bool := !s.fifo.isEmpty

end Sys2Proof.Machine
end

