-- ==== Sys2Proof/Machine/Operands.lean ====
section
/-! DEFINITION. The operand forms: the SLIP stuffing of what is sent (spec/40_slip.md R100 to R102), the header a
transmitted frame carries (spec/41_header_checksum.md R123), the window byte (spec/30_encoding.md R79), the
payloads this block sends (R77, R165, R171), and a slot's delivery (R85). -/

namespace Sys2Proof.Machine

/-- What is sent for the data byte 0xC0 (R100). -/
def stuffedEnd : List Byte := [Config.slipEsc, Config.slipEscEnd]

/-- What is sent for the data byte 0xDB (R100). -/
def stuffedEsc : List Byte := [Config.slipEsc, Config.slipEscEsc]

/-- `encode_byte(b)` (R100). -/
def encodeByte (b : Byte) : List Byte :=
  if b = Config.slipEnd then stuffedEnd
  else if b = Config.slipEsc then stuffedEsc
  else [b]

/-- `Stuff(s)` (R101). -/
def stuff : List Byte → List Byte
  | [] => []
  | b :: bs => encodeByte b ++ stuff bs

/-- A frame on the wire: the delimiters around the stuffed header and payload (R71, R102). -/
def wireFrame (f : List Byte) : List Byte := [Config.slipEnd] ++ stuff f ++ [Config.slipEnd]

/-- The header `encode(T, R, S, A, L)` builds: `crc_present` is 0 and the checksum is `cks` (R123, R128). -/
def builtHeader (t : PacketType) (r : Bool) (s a : Seq) (len : Length) : FrameHeader :=
  let h : FrameHeader := { reliable := r, crcPresent := false, ack := a, seq := s, length := len, checksum := 0 }
  { h with checksum := cks (headerByte0 h) (headerByte1 t h) (headerByte2 h) }

/-- `encode(T, R, S, A, L)` (R123). -/
def encodeHeader (t : PacketType) (r : Bool) (s a : Seq) (len : Length) : List Byte :=
  headerBytes t (builtHeader t r s a len)

/-- `wire(T, R, S, A, P)` (R78). -/
def wire (t : PacketType) (r : Bool) (s a : Seq) (p : List Byte) : List Byte :=
  wireFrame (encodeHeader t r s a (BitVec.ofNat 12 p.length) ++ p)

/-- The window byte this block sends: the window in bits [2:0], bits [7:3] zero (R79, R165). -/
def windowByte (w : Seq) : Byte := w.setWidth 8

/-- The window of a received window byte: its bits [2:0] (R79, R167). -/
def windowOf (b : Byte) : Seq := b.extractLsb' 0 3

/-- The window a CONFIG_RESP adopts over the present one: that of its third byte, if there is one and it is not 0
(R167). The argument is what follows the signature. -/
def adoptedWindow (rest : List Byte) (present : Seq) : Seq :=
  match rest with
  | [] => present
  | b :: _ => if windowOf b = 0 then present else windowOf b

/-- SYNC_REQ as sent (R77). -/
def syncReqPayload : List Byte := [0x01, 0x7E]
/-- SYNC_RESP as sent (R77). -/
def syncRespPayload : List Byte := [0x02, 0x7D]
/-- CONFIG_REQ as sent, with the advertised window (R77, R165). -/
def configReqPayload : List Byte := [0x03, 0xFC, windowByte Config.advWin]
/-- CONFIG_RESP as sent, without a window byte (R77, R171). -/
def configRespPayload : List Byte := [0x04, 0x7B]
/-- WOKEN_REQ as sent (R77). -/
def wokenReqPayload : List Byte := [0x06, 0xF9]

/-- What POP delivers of a slot: the packet type of its header byte 1 and the bytes after the header (R85, R194). -/
def deliveryOf (slot : List Byte) : Delivery where
  packetType := packetTypeOf (slot.getD 1 0)
  payload := slot.drop 4

/-- The frame a frame instruction stands for: header, then payload (R80). -/
def frameBytesOf (t : PacketType) (h : FrameHeader) (p : List Byte) : List Byte := headerBytes t h ++ p

end Sys2Proof.Machine
end

