-- ==== Sys2Proof/Machine/Ops.lean ====
section
/-! DEFINITION. The operations the meanings share: the storage of `rx_buf`, the streams, the model's fault and refusal
marks (what this block has in place of an exception: it has no trap entry and no return, spec/60_exceptions.md R232,
R236), the one transmit path, the frame buffer, the FIFO, the peer reset and the protocol reset. -/

namespace Sys2Proof.Machine

/-- The byte at an index of `rx_buf`. -/
def readByte (m : Memory) (a : Nat) : Byte :=
  match m with
  | [] => blankByte
  | (b, v) :: rest => if b = a then v else readByte rest a

/-- A blank byte is not listed. -/
def consCell (a : Nat) (v : Byte) (m : Memory) : Memory := if v = blankByte then m else (a, v) :: m

/-- `rx_buf[a] <- v` in the canonical form. -/
def writeByte (m : Memory) (a : Nat) (v : Byte) : Memory :=
  match m with
  | [] => consCell a v []
  | (b, w) :: rest =>
    if a < b then consCell a v ((b, w) :: rest)
    else if a = b then consCell a v rest
    else (b, w) :: writeByte rest a v

/-- `rx_buf[a : a + len(bs)] <- bs`. -/
def writeBytes (m : Memory) (a : Nat) (bs : List Byte) : Memory :=
  match bs with
  | [] => m
  | v :: rest => writeBytes (writeByte m a v) (a + 1) rest

/-- `rx_buf[a : a + n]`. -/
def readBytes (m : Memory) (a n : Nat) : List Byte :=
  match n with
  | 0 => []
  | k + 1 => readByte m a :: readBytes m (a + 1) k

/-- `Log(code)` and `Event(code)`: a record appended to the event stream (R17, R230). -/
def logRecord (e : EventCode) (s : State) : State := { s with events := s.events ++ [e] }

/-- `Emit`: bytes appended to the transmit stream (R17, R57). -/
def emit (bs : List Byte) (s : State) : State := { s with txStream := s.txStream ++ bs }

/-- `raise Fault(code)`: it sets the sticky mark of the fault and performs nothing else. There is no trap entry, no
saved state and no return (R36, R214, R236). -/
def raiseFault (f : Fault) (s : State) : State :=
  match f with
  | .sendLength => { s with faultSendLength := true }

/-- `Refuse(code)`: it sets the sticky mark `refused` and changes nothing else (R36, R237). -/
def refuseCommand (_code : Refusal) (s : State) : State := { s with refused := true }

/-- `tx_seq` after a frame of the type has been sent (R126). -/
def advanceTxSeq (t : PacketType) (s : State) : State :=
  if sentReliable t then { s with txSeq := s.txSeq + 1 } else s

/-- The sequence number a frame of the type is sent with (R126, R129). -/
def sendSeq (t : PacketType) (s : State) : Seq := if sentReliable t then s.txSeq else 0

/-- `TxFrame(T, P)`, the one transmit path (R126). -/
def txFrame (t : PacketType) (p : List Byte) (s : State) : State :=
  emit (wire t (sentReliable t) (sendSeq t s) s.txAck p) (advanceTxSeq t s)

/-- `SendLC` (R162). -/
def sendLc (p : List Byte) (s : State) : State := txFrame linkControlType p s

/-- The parser back in HUNT with no byte collected (R105, R107, R211, R212). -/
def parserToHunt (s : State) : State := { s with rxMode := .hunt, rxLen := 0 }

/-- `BufAppend(v)` (R106). -/
def bufAppend (v : Byte) (s : State) : State :=
  if s.rxLen = 4099 then { parserToHunt (logRecord .eOversize s) with esc := false }
  else { s with rxBuf := writeByte s.rxBuf s.rxLen.toNat v, rxLen := s.rxLen + 1 }

/-- `rx_buf[0 : rx_len]` (R107). -/
def collectedFrame (s : State) : List Byte := readBytes s.rxBuf 0 s.rxLen.toNat

/-- `FifoPush(f)`: a full FIFO drops the newest frame (R191). -/
def fifoPush (f : List Byte) (s : State) : State :=
  if s.fifo.length = Config.fifoDepth then logRecord .eFifoFull s else { s with fifo := s.fifo ++ [f] }

/-- `peer_reset()` (R161). -/
def peerReset (s : State) : State :=
  { s with linkState := .uninit, txSeq := 0, txAck := 0, rxAck := 0, oooCount := 0, initFired := false }

/-- The reset a SYNC message makes of an ACTIVE link (R163, R164). -/
def resetIfActive (s : State) : State := if s.linkState = .active then peerReset s else s

/-- What RESET and START both write: the protocol registers and the parser (R211, R212, R260). -/
def protocolReset (s : State) : State :=
  { s with linkState := .uninit, sleepState := .awake, txSeq := 0, txAck := 0, rxAck := 0, txWin := 1, oooCount := 0,
           ackOwed := false, initFired := false, rxMode := .hunt, esc := false, rxLen := 0 }

/-- In-order acceptance (R144). -/
def acceptInOrder (s : State) : State := { s with txAck := s.txAck + 1, ackOwed := true, oooCount := 0 }

/-- Out-of-order drop (R145), and the resync it may trigger (R146). -/
def dropOutOfOrder (s : State) : State :=
  if resyncDue s then
    { sendLc syncReqPayload (logRecord .iResync (logRecord .wOutOfOrder { s with ackOwed := true })) with oooCount := 0 }
  else
    logRecord .wOutOfOrder { s with ackOwed := true, oooCount := s.oooCount + 1 }

/-- Record of the peer's acknowledgement (R147). -/
def recordAck (h : FrameHeader) (s : State) : State := { s with rxAck := h.ack }

/-- ACK emission at the end of a frame's processing (R149). -/
def flushAck (s : State) : State := if s.ackOwed then { txFrame ackType [] s with ackOwed := false } else s

/-- Steps 3 and 4 of the pipeline: sequencing, then `rx_ack` and the dispatch of a frame that is not dropped (R140,
R144, R145, R147). -/
def sequenceFrame (h : FrameHeader) (dispatch : State → State) (s : State) : State :=
  if h.reliable then
    if inWindow h s then dispatch (recordAck h (acceptInOrder s)) else dropOutOfOrder s
  else dispatch (recordAck h s)

/-- The frame pipeline on a frame with a header, whose dispatch the packet type gives (R140). -/
def pipeline (t : PacketType) (h : FrameHeader) (p : List Byte) (dispatch : State → State) (s : State) : State :=
  if !headerVerifies t h then logRecord .wChecksum s
  else if lengthDrops h p then logRecord .eLength s
  else if gateDrops t s then logRecord .wNotActive s
  else flushAck (sequenceFrame h dispatch s)

end Sys2Proof.Machine
end

