-- ==== Sys2Proof/Machine/Commands.lean ====
section
/-! DEFINITION. The commands (spec/45_control_ports.md R211 to R216; POP: spec/44_rx_fifo.md R193, R194; the reserved
ops: spec/60_exceptions.md R237). -/

namespace Sys2Proof.Machine

/-- RESET (R211). The model marks and the streams are kept (R260). -/
def resetEngine (s : State) : State := { protocolReset s with running := false, fifo := [] }

/-- START (R212). The FIFO is kept. -/
def startEngine (s : State) : State := txFrame linkControlType syncReqPayload { protocolReset s with running := true }

/-- STOP (R213). -/
def stopEngine (s : State) : State := { s with running := false }

/-- The obligation mark of a payload frame sent early (R215). -/
def markEarlySend (t : PacketType) (s : State) : State :=
  if sendTooEarly t s then { s with oblEarlySend := true } else s

/-- SEND (R214 to R216). -/
def sendFrame (t : PacketType) (p : List Byte) (s : State) : State :=
  if sendTooLong p then raiseFault .sendLength s else txFrame t p (markEarlySend t s)

/-- A POP that has no step is held: it stays among the POPs issued and not taken (R193). -/
def holdPop (s : State) : State := { s with popRequests := s.popRequests + 1 }

/-- POP of the head slot (R194). -/
def popFrame (s : State) : State :=
  match s.fifo with
  | [] => s
  | slot :: rest => { s with fifo := rest, deliveries := s.deliveries ++ [deliveryOf slot] }

/-- `RESET` (R211). -/
def execReset (s : State) : Host.Outcome State Fault Refusal := .next (resetEngine s)

/-- `START` (R212). -/
def execStart (s : State) : Host.Outcome State Fault Refusal := .next (startEngine s)

/-- `STOP` (R213). -/
def execStop (s : State) : Host.Outcome State Fault Refusal := .next (stopEngine s)

/-- `SEND` (R216). -/
def execSend (t : PacketType) (p : List Byte) (s : State) : Host.Outcome State Fault Refusal := .next (sendFrame t p s)

/-- `POP` (R193, R194). -/
def execPop (s : State) : Host.Outcome State Fault Refusal := .next (if popEnabled s then popFrame s else holdPop s)

/-- Reserved op 5 (R237). -/
def execReservedOp101 (s : State) : Host.Outcome State Fault Refusal := .next (refuseCommand (.reservedOp 5) s)

/-- Reserved op 6 (R237). -/
def execReservedOp110 (s : State) : Host.Outcome State Fault Refusal := .next (refuseCommand (.reservedOp 6) s)

/-- Reserved op 7 (R237). -/
def execReservedOp111 (s : State) : Host.Outcome State Fault Refusal := .next (refuseCommand (.reservedOp 7) s)

end Sys2Proof.Machine
end

