-- ==== Sys2Proof/Machine/LinkControl.lean ====
section
/-! DEFINITION. The link-control messages (spec/43_link_control.md R160 to R172): the effect of each on the state, the
handler that runs the one a payload names, and the meanings. -/

namespace Sys2Proof.Machine

/-- SYNC_REQ received (R163). -/
def syncReq (s : State) : State := sendLc syncRespPayload (resetIfActive s)

/-- SYNC_RESP received (R164). -/
def syncResp (s : State) : State := sendLc configReqPayload { resetIfActive s with linkState := .init }

/-- CONFIG_REQ received (R166). -/
def configReq (s : State) : State := sendLc configReqPayload (sendLc configRespPayload s)

/-- The once-per-handshake notification (R30, R167). -/
def fireInit (s : State) : State :=
  if s.initFired then s else logRecord .evInitComplete { s with initFired := true }

/-- CONFIG_RESP received; the argument is what follows the signature (R167). -/
def configResp (rest : List Byte) (s : State) : State :=
  fireInit { s with txWin := adoptedWindow rest s.txWin, linkState := .active }

/-- SLEEP_REQ received (R168). -/
def sleepReq (s : State) : State := { s with sleepState := .sleeping }

/-- WOKEN_REQ received (R169). -/
def wokenReq (s : State) : State := { s with sleepState := .awake }

/-- WAKEUP_REQ received (R170). -/
def wakeupReq (s : State) : State := { sendLc wokenReqPayload s with sleepState := .awake }

/-- An unknown payload (R172). -/
def unknownLc (s : State) : State := logRecord .dUnknownLc s

/-- `LinkControl(p)` (R160). -/
def linkControl (p : List Byte) (s : State) : State :=
  match lcMessage p with
  | .syncReq _ => syncReq s
  | .syncResp _ => syncResp s
  | .configReq _ => configReq s
  | .configResp rest => configResp rest s
  | .sleepReq _ => sleepReq s
  | .wokenReq _ => wokenReq s
  | .wakeupReq _ => wakeupReq s
  | .unknown _ => unknownLc s

/-- `LC SYNC_REQ`; trailing bytes are ignored (R160, R163). -/
def execLcSyncReq (_rest : List Byte) (s : State) : Host.Outcome State Fault Refusal := .next (syncReq s)

/-- `LC SYNC_RESP`; trailing bytes are ignored (R160, R164). -/
def execLcSyncResp (_rest : List Byte) (s : State) : Host.Outcome State Fault Refusal := .next (syncResp s)

/-- `LC CONFIG_REQ`; the received window is not adopted (R160, R166). -/
def execLcConfigReq (_rest : List Byte) (s : State) : Host.Outcome State Fault Refusal := .next (configReq s)

/-- `LC CONFIG_RESP` (R167). -/
def execLcConfigResp (rest : List Byte) (s : State) : Host.Outcome State Fault Refusal := .next (configResp rest s)

/-- `LC SLEEP_REQ`; trailing bytes are ignored (R160, R168). -/
def execLcSleepReq (_rest : List Byte) (s : State) : Host.Outcome State Fault Refusal := .next (sleepReq s)

/-- `LC WOKEN_REQ`; trailing bytes are ignored (R160, R169). -/
def execLcWokenReq (_rest : List Byte) (s : State) : Host.Outcome State Fault Refusal := .next (wokenReq s)

/-- `LC WAKEUP_REQ`; trailing bytes are ignored (R160, R170). -/
def execLcWakeupReq (_rest : List Byte) (s : State) : Host.Outcome State Fault Refusal := .next (wakeupReq s)

/-- `LC unknown` (R172). -/
def execLcUnknown (_p : List Byte) (s : State) : Host.Outcome State Fault Refusal := .next (unknownLc s)

end Sys2Proof.Machine
end

