-- ==== Sys2Proof/Machine/Frames.lean ====
section
/-! DEFINITION. The frames by packet type (spec/42_reliability.md R140, R152): each type is the pipeline with its own
dispatch; `processFrame` runs the one a frame's header names (R140); and the meanings. -/

namespace Sys2Proof.Machine

/-- ACK: nothing beyond the pipeline (R75, R152). -/
def frameAck (h : FrameHeader) (p : List Byte) (s : State) : State := pipeline 0 h p (fun x => x) s

/-- COMMAND: nothing beyond the pipeline (R75, R152). -/
def frameCommand (h : FrameHeader) (p : List Byte) (s : State) : State := pipeline 1 h p (fun x => x) s

/-- ACL: pushed to the FIFO (R152, R190). -/
def frameAcl (h : FrameHeader) (p : List Byte) (s : State) : State := pipeline 2 h p (fifoPush (frameBytesOf 2 h p)) s

/-- SCO: pushed to the FIFO (R152, R190). -/
def frameSco (h : FrameHeader) (p : List Byte) (s : State) : State := pipeline 3 h p (fifoPush (frameBytesOf 3 h p)) s

/-- EVENT: pushed to the FIFO (R152, R190). -/
def frameEvent (h : FrameHeader) (p : List Byte) (s : State) : State := pipeline 4 h p (fifoPush (frameBytesOf 4 h p)) s

/-- ISO: pushed to the FIFO (R152, R190). -/
def frameIso (h : FrameHeader) (p : List Byte) (s : State) : State := pipeline 5 h p (fifoPush (frameBytesOf 5 h p)) s

/-- LINK_CONTROL: the payload goes to the link-control handler (R152, R160). -/
def frameLinkControl (h : FrameHeader) (p : List Byte) (s : State) : State := pipeline 15 h p (linkControl p) s

/-- A reserved type: nothing beyond the pipeline, and no record (R76, R152). -/
def frameReserved (t : PacketType) (h : FrameHeader) (p : List Byte) (s : State) : State := pipeline t h p (fun x => x) s

/-- A frame with a header, by its packet class (R152). -/
def runFrame (c : PacketClass) (h : FrameHeader) (p : List Byte) (s : State) : State :=
  match c with
  | .ack => frameAck h p s
  | .command => frameCommand h p s
  | .acl => frameAcl h p s
  | .sco => frameSco h p s
  | .event => frameEvent h p s
  | .iso => frameIso h p s
  | .linkControl => frameLinkControl h p s
  | .reserved t => frameReserved t h p s

/-- `ProcessFrame(f)` (R140); a frame of fewer than four bytes is a runt (R141). -/
def processFrame (f : List Byte) (s : State) : State :=
  match f with
  | h0 :: h1 :: h2 :: h3 :: p => runFrame (packetClass (packetTypeOf h1)) (headerOf h0 h1 h2 h3) p s
  | _ => logRecord .eRunt s

/-- `FRAME ACK` (R152). -/
def execFrameAck (h : FrameHeader) (p : List Byte) (s : State) : Host.Outcome State Fault Refusal := .next (frameAck h p s)

/-- `FRAME COMMAND` (R152). -/
def execFrameCommand (h : FrameHeader) (p : List Byte) (s : State) : Host.Outcome State Fault Refusal :=
  .next (frameCommand h p s)

/-- `FRAME ACL` (R190). -/
def execFrameAcl (h : FrameHeader) (p : List Byte) (s : State) : Host.Outcome State Fault Refusal := .next (frameAcl h p s)

/-- `FRAME SCO` (R190). -/
def execFrameSco (h : FrameHeader) (p : List Byte) (s : State) : Host.Outcome State Fault Refusal := .next (frameSco h p s)

/-- `FRAME EVENT` (R190). -/
def execFrameEvent (h : FrameHeader) (p : List Byte) (s : State) : Host.Outcome State Fault Refusal :=
  .next (frameEvent h p s)

/-- `FRAME ISO` (R190). -/
def execFrameIso (h : FrameHeader) (p : List Byte) (s : State) : Host.Outcome State Fault Refusal := .next (frameIso h p s)

/-- `FRAME LINK_CONTROL` (R160). -/
def execFrameLinkControl (h : FrameHeader) (p : List Byte) (s : State) : Host.Outcome State Fault Refusal :=
  .next (frameLinkControl h p s)

/-- `FRAME reserved type` (R76). -/
def execFrameReserved (t : PacketType) (h : FrameHeader) (p : List Byte) (s : State) : Host.Outcome State Fault Refusal :=
  .next (frameReserved t h p s)

end Sys2Proof.Machine
end

