-- ==== Sys2Proof/Machine/SlipRx.lean ====
section
/-! DEFINITION. The intake step, one received byte (spec/40_slip.md R103 to R108), one row of the table per parser
context and byte class. -/

namespace Sys2Proof.Machine

/-- A delimiter in HUNT opens a frame (R103). -/
def openFrame (s : State) : State := { s with rxMode := .inFrame, rxLen := 0, esc := false }

/-- A bad escape discards the frame; the byte is consumed (R105). -/
def badEscape (s : State) : State := parserToHunt (logRecord .eBadEscape { s with esc := false })

/-- A delimiter inside a frame: an empty frame changes nothing, any other is processed in this same step (R107). -/
def closeFrame (s : State) : State :=
  if s.rxLen = 0 then s else processFrame (collectedFrame s) (parserToHunt s)

/-- `RXB END (rx_mode=HUNT)` (R103). -/
def execRxbEndHunt (s : State) : Host.Outcome State Fault Refusal := .next (openFrame s)

/-- `RXB other (rx_mode=HUNT)`: the byte is discarded (R103). -/
def execRxbOtherHunt (_b : Byte) (s : State) : Host.Outcome State Fault Refusal := .next s

/-- `RXB ESC (IN_FRAME, esc=0)` (R104). -/
def execRxbEsc (s : State) : Host.Outcome State Fault Refusal := .next { s with esc := true }

/-- `RXB ESC_END (IN_FRAME, esc=1)` (R105). -/
def execRxbEscEnd (s : State) : Host.Outcome State Fault Refusal :=
  .next (bufAppend Config.slipEnd { s with esc := false })

/-- `RXB ESC_ESC (IN_FRAME, esc=1)` (R105). -/
def execRxbEscEsc (s : State) : Host.Outcome State Fault Refusal :=
  .next (bufAppend Config.slipEsc { s with esc := false })

/-- `RXB bad escape (IN_FRAME, esc=1)` (R105). -/
def execRxbBadEscape (_b : Byte) (s : State) : Host.Outcome State Fault Refusal := .next (badEscape s)

/-- `RXB END (IN_FRAME, esc=0)` (R107). -/
def execRxbEndFrame (s : State) : Host.Outcome State Fault Refusal := .next (closeFrame s)

/-- `RXB data (IN_FRAME, esc=0)` (R108). -/
def execRxbData (b : Byte) (s : State) : Host.Outcome State Fault Refusal := .next (bufAppend b s)

end Sys2Proof.Machine
end

