-- ==== Sys2Proof/Machine/SlipTx.lean ====
section
/-! DEFINITION. The two escape sequences of the transmit side (spec/40_slip.md R100): what the stuffer puts on the
transmit stream for a data byte 0xC0 or 0xDB. Every frame the block sends is stuffed by the same `encodeByte`
inside its one `Emit` (R57, R101, R102; log entry 6). -/

namespace Sys2Proof.Machine

/-- `TX stuff END`: 0xC0 inside a frame is sent as `DB DC` (R100). -/
def execTxStuffEnd (s : State) : Host.Outcome State Fault Refusal := .next (emit (encodeByte Config.slipEnd) s)

/-- `TX stuff ESC`: 0xDB inside a frame is sent as `DB DD` (R100). -/
def execTxStuffEsc (s : State) : Host.Outcome State Fault Refusal := .next (emit (encodeByte Config.slipEsc) s)

end Sys2Proof.Machine
end

