-- ==== Sys2Proof/Machine/Dispatch.lean ====
section
/-! DEFINITION. One arm per instruction, each one call of its meaning. -/

namespace Sys2Proof.Machine

def exec (i : Instr) (s : State) : Host.Outcome State Fault Refusal :=
  match i with
  | .rxbEndHunt => Sys2Proof.Machine.execRxbEndHunt s
  | .rxbOtherHunt b => Sys2Proof.Machine.execRxbOtherHunt b s
  | .rxbEsc => Sys2Proof.Machine.execRxbEsc s
  | .rxbEscEnd => Sys2Proof.Machine.execRxbEscEnd s
  | .rxbEscEsc => Sys2Proof.Machine.execRxbEscEsc s
  | .rxbBadEscape b => Sys2Proof.Machine.execRxbBadEscape b s
  | .rxbEndFrame => Sys2Proof.Machine.execRxbEndFrame s
  | .rxbData b => Sys2Proof.Machine.execRxbData b s
  | .txStuffEnd => Sys2Proof.Machine.execTxStuffEnd s
  | .txStuffEsc => Sys2Proof.Machine.execTxStuffEsc s
  | .frameAck h p => Sys2Proof.Machine.execFrameAck h p s
  | .frameCommand h p => Sys2Proof.Machine.execFrameCommand h p s
  | .frameAcl h p => Sys2Proof.Machine.execFrameAcl h p s
  | .frameSco h p => Sys2Proof.Machine.execFrameSco h p s
  | .frameEvent h p => Sys2Proof.Machine.execFrameEvent h p s
  | .frameIso h p => Sys2Proof.Machine.execFrameIso h p s
  | .frameLinkControl h p => Sys2Proof.Machine.execFrameLinkControl h p s
  | .frameReserved t h p => Sys2Proof.Machine.execFrameReserved t h p s
  | .lcSyncReq rest => Sys2Proof.Machine.execLcSyncReq rest s
  | .lcSyncResp rest => Sys2Proof.Machine.execLcSyncResp rest s
  | .lcConfigReq rest => Sys2Proof.Machine.execLcConfigReq rest s
  | .lcConfigResp rest => Sys2Proof.Machine.execLcConfigResp rest s
  | .lcSleepReq rest => Sys2Proof.Machine.execLcSleepReq rest s
  | .lcWokenReq rest => Sys2Proof.Machine.execLcWokenReq rest s
  | .lcWakeupReq rest => Sys2Proof.Machine.execLcWakeupReq rest s
  | .lcUnknown p => Sys2Proof.Machine.execLcUnknown p s
  | .cmdReset => Sys2Proof.Machine.execReset s
  | .cmdStart => Sys2Proof.Machine.execStart s
  | .cmdStop => Sys2Proof.Machine.execStop s
  | .cmdSend t p => Sys2Proof.Machine.execSend t p s
  | .cmdPop => Sys2Proof.Machine.execPop s
  | .reservedOp101 => Sys2Proof.Machine.execReservedOp101 s
  | .reservedOp110 => Sys2Proof.Machine.execReservedOp110 s
  | .reservedOp111 => Sys2Proof.Machine.execReservedOp111 s

end Sys2Proof.Machine
end

