-- ==== Sys2Proof/Machine/Fetch.lean ====
section
/-! DEFINITION. What stands in place of a fetch: the agent whose turn it is takes what waits at its port
(spec/00_scope.md R14, spec/20_memory.md R60, spec/10_state.md R21), and how a word of the opcode table is placed so
that the next step runs it. -/

namespace Sys2Proof.Machine

/-- The parser context of the next received byte (R32, R33). -/
def rxContext (s : State) : RxContext :=
  match s.rxMode with
  | .hunt => .hunt
  | .inFrame => .inFrame s.esc

/-- The intake agent's turn: the next received byte, if one waits (R14, R103). -/
def fetchByte (s : State) : Option Instr × State :=
  match s.rxPort with
  | [] => (none, s)
  | b :: bs => (some (decodeRxByte (rxContext s) b), { s with rxPort := bs })

/-- The host agent's turn: the next command, if one waits (R14, R210). -/
def fetchCommand (s : State) : Option Instr × State :=
  match s.cmdPort with
  | [] => (none, s)
  | c :: cs => (some (decodeCommand c), { s with cmdPort := cs })

/-- The consumer agent's turn: a POP it has issued, if one is outstanding (R14, R193). -/
def fetchPop (s : State) : Option Instr × State :=
  match s.popRequests with
  | 0 => (none, s)
  | n + 1 => (some .cmdPop, { s with popRequests := n })

/-- The turn passes to the agent named next. An agent with nothing at its port takes no step; with no turn left the
block waits (R60, R261). -/
def fetch (s : State) : Option Instr × State :=
  match s.turns with
  | [] => (none, s)
  | .intake :: ts => fetchByte { s with turns := ts }
  | .host :: ts => fetchCommand { s with turns := ts }
  | .consumer :: ts => fetchPop { s with turns := ts }

/-- A byte placed at the receive port in a parser context, the intake agent moving next. -/
def placeByte (ctx : RxContext) (b : Byte) (s : State) : State :=
  let s := { s with rxPort := b :: s.rxPort, turns := .intake :: s.turns }
  match ctx with
  | .hunt => { s with rxMode := .hunt, rxLen := 0, esc := false }
  | .inFrame e => { s with rxMode := .inFrame, esc := e }

/-- A command placed at the command port, the host agent moving next. -/
def placeCommand (c : Command) (s : State) : State := { s with cmdPort := c :: s.cmdPort, turns := .host :: s.turns }

/-- A frame of `n` bytes placed in the frame buffer, unstuffed, with its closing delimiter at the receive port: it
begins with the bytes given, and the rest of it is 0x00, as a blank `rx_buf` reads. -/
def placeBytes (f : List Byte) (n : Nat) (s : State) : State :=
  placeByte (.inFrame false) Config.slipEnd { s with rxBuf := writeBytes [] 0 f, rxLen := BitVec.ofNat 13 n }

/-- A frame placed in the frame buffer. -/
def placeFrame (f : List Byte) (s : State) : State := placeBytes f f.length s

/-- The link-control frame that carries a payload: unreliable, `ack` 0, with its length and checksum. -/
def lcFrameOf (p : List Byte) : List Byte := encodeHeader linkControlType false 0 0 (BitVec.ofNat 12 p.length) ++ p

/-- The data byte an escape sequence is sent for (R100). -/
def stuffedByteOf (bs : List Byte) : Byte := if bs = stuffedEnd then Config.slipEnd else Config.slipEsc

/-- A word placed where the next step takes it. A received byte waits at the receive port, in its parser context; a
command at the command port. The other three formats are run inside a step: a frame by the delimiter that closes
it, a link-control payload by the frame that carries it, an escape sequence by a SEND of the byte it stands for
(an ACK-type frame, which sets no mark) (R107, R152, R102; log entry 6). -/
def placeEncoded (e : Encoded) (s : State) : State :=
  match e with
  | .rxByte ctx b => placeByte ctx b s
  | .command c => placeCommand c s
  | .frame f => placeFrame f s
  | .lcPayload p => placeFrame (lcFrameOf p) s
  | .txSequence bs => placeCommand { op := 3, ptype := ackType, payload := [stuffedByteOf bs] } s

/-- A frame header of the opcode table, with as many zero bytes of payload as its length field counts. -/
def placeHeader (h0 h1 h2 h3 : Byte) (s : State) : State :=
  placeBytes [h0, h1, h2, h3] (4 + (headerOf h0 h1 h2 h3).length.toNat) s

/-- A word of the opcode table placed where the next step takes it. -/
def placeTableWord (nbits w : Nat) (s : State) : State :=
  if nbits = 32 then placeHeader (tableByte 4 0 w) (tableByte 4 1 w) (tableByte 4 2 w) (tableByte 4 3 w) s
  else
    match tableEncoded nbits w with
    | some e => placeEncoded e s
    | none => s

end Sys2Proof.Machine
end

