-- ==== Sys2Proof/Machine/Step.lean ====
section
/-! DEFINITION. One step: the agent whose turn it is takes one atomic step (spec/00_scope.md R14, spec/20_memory.md
R60). -/

namespace Sys2Proof.Machine

/-- The instruction fetched runs on the state without it; where no agent has a step, the block waits. -/
def step (s : State) : Host.Outcome State Fault Refusal :=
  match fetch s with
  | (some i, s') => exec i s'
  | (none, s') => .next s'

/-- The state with a word of the opcode table placed so that the very next step runs it. -/
def State.withFetchWord (s : State) (nbits w : Nat) : State := placeTableWord nbits w s

end Sys2Proof.Machine
end

