-- ==== Sys2Proof/Safety.lean ====
section
/-! DEFINITION. What counts as a sound state of the engine: the invariants that hold at every step boundary
(spec/10_state.md R38, with the ranges of R34 and R35), and the marks a claim takes as clear (spec/60_exceptions.md
R238). -/

namespace Sys2Proof.Machine

/-- A queued frame has a header and fits a slot (R35). -/
def slotFits (slot : List Byte) : Bool := decide (4 ≤ slot.length) && decide (slot.length ≤ Config.maxFrame)

/-- The invariants at every step boundary (R34, R35, R38). `tx_seq`, `tx_ack` and `rx_ack` are in [0,7] and
`link_state` is never 3 by their types. -/
structure State.Inv (s : State) : Prop where
  /-- `tx_win` is in [1,7] (R38) -/
  txWin_ne : s.txWin ≠ 0
  /-- `ooo_count` is in [0,2] (R38) -/
  ooo_le : s.oooCount.toNat ≤ 2
  /-- `ack_owed` is 0 (R38) -/
  ackOwed_clear : s.ackOwed = false
  /-- `rx_mode = HUNT` implies `rx_len = 0` and `esc = 0` (R38) -/
  hunt_idle : s.rxMode = .hunt → s.rxLen = 0 ∧ s.esc = false
  /-- `fifo_count` is at most 10 (R38) -/
  fifo_le : s.fifo.length ≤ Config.fifoDepth
  /-- every slot's length is in [4, 4099] (R35) -/
  slots_fit : ∀ slot ∈ s.fifo, slotFits slot = true
  /-- `rx_len` is in [0, 4099] (R34) -/
  rxLen_le : s.rxLen.toNat ≤ Config.maxFrame
  /-- the storage of `rx_buf` is in canonical form (the model's) -/
  rxBuf_wf : Memory.wf s.rxBuf = true

/-- A received frame passes every check before sequencing (R140, R235): its checksum verifies, its byte count agrees
with its length field or the policy does not ask, and it may pass the Active gate. -/
structure Admitted (t : PacketType) (h : FrameHeader) (p : List Byte) (s : State) : Prop where
  /-- the checksum verifies (R121, R142) -/
  checksum : cks (headerByte0 h) (headerByte1 t h) (headerByte2 h) = h.checksum
  /-- the length agrees, or the policy is IGNORE (R148) -/
  length : p.length = h.length.toNat ∨ Config.rxLengthPolicy = .ignore
  /-- the link is ACTIVE, or the frame is link control (R143) -/
  gate : s.linkState = .active ∨ t = 15

/-- The frames that are pushed to the FIFO, with their packet types (R190). -/
def payloadFrames : List (PacketType × (FrameHeader → List Byte → Instr)) :=
  [(2, .frameAcl), (3, .frameSco), (4, .frameEvent), (5, .frameIso)]

/-- The frames that have no effect beyond the pipeline: ACK, COMMAND and the reserved types (R76, R152). -/
def SilentFrame (t : PacketType) (mk : FrameHeader → List Byte → Instr) : Prop :=
  (t = 0 ∧ mk = .frameAck) ∨ (t = 1 ∧ mk = .frameCommand) ∨ (isReservedType t = true ∧ mk = .frameReserved t)

/-- Instructions run one after the other, stopping at the first that does not answer a next state. -/
def execAll (is : List Instr) (s : State) : Host.Outcome State Fault Refusal :=
  match is with
  | [] => .next s
  | i :: rest =>
    match exec i s with
    | .next t => execAll rest t
    | .fault f => .fault f
    | .refused r => .refused r

/-- `k` steps of the machine, stopping at the first that does not answer a next state: `Host.Core.run` of this core. -/
def runSteps (k : Nat) (s : State) : Host.Outcome State Fault Refusal :=
  match k with
  | 0 => .next s
  | k + 1 =>
    match step s with
    | .next t => runSteps k t
    | .fault f => .fault f
    | .refused r => .refused r

/-- The three marks every claim of the spec takes as clear (R238). -/
def State.marksClear (s : State) : Bool := !s.faultSendLength && !s.oblEarlySend && !s.refused

end Sys2Proof.Machine
end

