-- ==== Sys2Proof/Certificates/Slice0/Obligations.lean ====
section
/-! DEFINITION. The statements for the provers. Each docstring names the rules of spec/ it formalises. -/

open Sys2Proof Sys2Proof.Machine

/-! ### Encodings -/

/-- R70 to R77, R84: decoding the word of a well-formed instruction gives the instruction back, for every
instruction and every operand. -/
def Obligations.DecodeOfEncodeIsIdentity : Prop :=
  ∀ i : Instr, i.wf = true → decode (encode i) = .instr i

/-- R70 to R77: a received byte in its context, a transmitted sequence, a frame and a link-control payload are what
the encoder writes for the instruction they decode to: no bit of them is dropped. A command is left out, since only
SEND has operands (R84). -/
def Obligations.EncodeOfDecodeIsIdentity : Prop :=
  ∀ (e : Encoded) (i : Instr), (∀ c : Command, e ≠ .command c) → decode e = .instr i → encode i = e

/-- R70, R73, R77, R84: words written out from the spec's encodings decode to the instruction they stand for. -/
def Obligations.SampleWordsDecode : Prop :=
  decode (.rxByte .hunt 0xC0) = .instr .rxbEndHunt ∧
  decode (.rxByte (.inFrame true) 0xDC) = .instr .rxbEscEnd ∧
  decode (.txSequence [0xDB, 0xDD]) = .instr .txStuffEsc ∧
  decode (.frame [0x80, 0x32, 0x00, 0x4D, 0x01, 0x02, 0x03]) = .instr (.frameAcl
    { reliable := true, crcPresent := false, ack := 0, seq := 0, length := 3, checksum := 0x4D } [0x01, 0x02, 0x03]) ∧
  decode (.lcPayload [0x04, 0x7B, 0x03]) = .instr (.lcConfigResp [0x03]) ∧
  decode (.command { op := 4, ptype := 0, payload := [] }) = .instr .cmdPop

/-- R100: `encode_byte` of every byte. -/
def Obligations.EncodeByteEscapesTheTwoReservedValues : Prop :=
  encodeByte 0xC0 = [0xDB, 0xDC] ∧ encodeByte 0xDB = [0xDB, 0xDD] ∧
  ∀ b : Byte, b ≠ 0xC0 → b ≠ 0xDB → encodeByte b = [b]

/-- Derived from R100 (R101's own inference): a stuffed sequence holds no delimiter, and an escape in it is followed
by 0xDC or 0xDD. -/
def Obligations.StuffedBytesHoldNoDelimiter : Prop :=
  ∀ s : List Byte, (0xC0 : Byte) ∉ stuff s ∧
    ∀ k : Nat, (stuff s)[k]? = some 0xDB → (stuff s)[k + 1]? = some 0xDC ∨ (stuff s)[k + 1]? = some 0xDD

/-- Derived from R70 and R71 (R82's own inference): the wire length of a frame with `L` payload bytes. -/
def Obligations.WireLengthIsBounded : Prop :=
  ∀ (t : PacketType) (r : Bool) (s a : Seq) (p : List Byte),
    6 + p.length ≤ (wire t r s a p).length ∧ (wire t r s a p).length ≤ 2 + 2 * (4 + p.length)

/-- Derived from R120's second form, which R120 marks as its own inference ("[derived: the second form from the first,
for 8-bit complement]"): the checksum is 255 minus the integer sum of the three bytes modulo 256. -/
def Obligations.ChecksumComplementsTheSum : Prop :=
  ∀ h0 h1 h2 : Byte, (cks h0 h1 h2).toNat = 255 - (h0.toNat + h1.toNat + h2.toNat) % 256

/-- R123: the four header bytes the builder makes, in the spec's integer formula. -/
def Obligations.HeaderBuilderMakesTheFourBytes : Prop :=
  ∀ (t : PacketType) (r : Bool) (s a : Seq) (len : Length),
    ∃ h0 h1 h2 : Byte, encodeHeader t r s a len = [h0, h1, h2, cks h0 h1 h2] ∧
      h0.toNat = r.toNat * 128 + a.toNat * 8 + s.toNat ∧
      h1.toNat = (len.toNat % 16) * 16 + t.toNat ∧
      h2.toNat = len.toNat / 16

/-- Derived from R123 and R124 (R125's own inference): a built header with a payload of its length parses back to the
fields it was built from, verifies, and agrees with the byte count. -/
def Obligations.BuiltHeaderParsesBack : Prop :=
  ∀ (t : PacketType) (r : Bool) (s a : Seq) (len : Length) (p : List Byte), p.length = len.toNat →
    ∃ h : FrameHeader, decodeFrame (encodeHeader t r s a len ++ p) = .instr (frameInstr (packetClass t) h p) ∧
      h.reliable = r ∧ h.crcPresent = false ∧ h.seq = s ∧ h.ack = a ∧ h.length = len ∧
      cks (headerByte0 h) (headerByte1 t h) (headerByte2 h) = h.checksum ∧ lengthAgrees h p = true

/-- Derived from R120 (R122's own inference): a change of exactly one header byte always fails the checksum. -/
def Obligations.SingleByteCorruptionIsCaught : Prop :=
  ∀ h0 h1 h2 h3 x : Byte, cks h0 h1 h2 = h3 →
    (x ≠ h0 → cks x h1 h2 ≠ h3) ∧ (x ≠ h1 → cks h0 x h2 ≠ h3) ∧ (x ≠ h2 → cks h0 h1 x ≠ h3) ∧
    (x ≠ h3 → cks h0 h1 h2 ≠ x)

/-! ### The SLIP receiver and stuffer -/

/-- R103: in HUNT a delimiter opens a frame and every other byte is discarded. -/
def Obligations.HuntOpensOnDelimiterOnly : Prop :=
  (∀ s : State, exec .rxbEndHunt s = .next { s with rxMode := .inFrame, rxLen := 0, esc := false }) ∧
  (∀ (b : Byte) (s : State), exec (.rxbOtherHunt b) s = .next s)

/-- R104: an escape inside a frame sets `esc` and nothing else. -/
def Obligations.EscapeSetsTheFlagOnly : Prop :=
  ∀ s : State, exec .rxbEsc s = .next { s with esc := true }

/-- R105, R106: the two escapes append 0xC0 and 0xDB, any other byte discards the frame; an append past 4099 bytes
discards it too. -/
def Obligations.EscapedByteIsResolved : Prop :=
  ∀ s : State,
    (s.rxLen ≠ 4099 →
      exec .rxbEscEnd s = .next
        { s with esc := false, rxBuf := writeByte s.rxBuf s.rxLen.toNat 0xC0, rxLen := s.rxLen + 1 } ∧
      exec .rxbEscEsc s = .next
        { s with esc := false, rxBuf := writeByte s.rxBuf s.rxLen.toNat 0xDB, rxLen := s.rxLen + 1 }) ∧
    (s.rxLen = 4099 →
      exec .rxbEscEnd s = .next
        { s with esc := false, rxMode := .hunt, rxLen := 0, events := s.events ++ [.eOversize] } ∧
      exec .rxbEscEsc s = .next
        { s with esc := false, rxMode := .hunt, rxLen := 0, events := s.events ++ [.eOversize] }) ∧
    ∀ b : Byte, exec (.rxbBadEscape b) s = .next
      { s with esc := false, rxMode := .hunt, rxLen := 0, events := s.events ++ [.eBadEscape] }

/-- R106, R108: a data byte is stored at `rx_len`; the 4100th discards the frame. -/
def Obligations.DataByteIsCollectedOrOverflows : Prop :=
  ∀ (b : Byte) (s : State),
    (s.rxLen ≠ 4099 → exec (.rxbData b) s = .next
      { s with rxBuf := writeByte s.rxBuf s.rxLen.toNat b, rxLen := s.rxLen + 1 }) ∧
    (s.rxLen = 4099 → exec (.rxbData b) s = .next
      { s with rxMode := .hunt, rxLen := 0, esc := false, events := s.events ++ [.eOversize] })

/-- R34, R106: the byte collected is the byte read back at `rx_len`, and every other byte of `rx_buf` is unchanged.
The storage's canonical form, a premise, is the model's own (log entry 3). -/
def Obligations.CollectedByteIsReadBack : Prop :=
  ∀ (b : Byte) (s : State), Memory.wf s.rxBuf = true → s.rxLen.toNat < 4099 →
    ∃ t : State, exec (.rxbData b) s = .next t ∧ t.rxLen.toNat = s.rxLen.toNat + 1 ∧
      collectedFrame t = collectedFrame s ++ [b] ∧
      ∀ a : Nat, a ≠ s.rxLen.toNat → readByte t.rxBuf a = readByte s.rxBuf a

/-- R107, R140, R141: the closing delimiter of an empty frame changes nothing; that of a frame of one to three bytes
logs `E_RUNT`; that of a longer frame returns the parser to HUNT and runs the frame instruction its header
decodes to, in the same step. -/
def Obligations.ClosingDelimiterRunsTheFrame : Prop :=
  ∀ s : State,
    (s.rxLen = 0 → exec .rxbEndFrame s = .next s) ∧
    (0 < s.rxLen.toNat → s.rxLen.toNat < 4 → exec .rxbEndFrame s = .next
      { s with rxMode := .hunt, rxLen := 0, events := s.events ++ [.eRunt] }) ∧
    (4 ≤ s.rxLen.toNat → ∃ (i : Instr) (t : State), decode (.frame (collectedFrame s)) = .instr i ∧
      exec i { s with rxMode := .hunt, rxLen := 0 } = .next t ∧ exec .rxbEndFrame s = .next t)

/-- R111: of the received bytes, all but a delimiter that closes a frame write only the parser and the event
stream. -/
def Obligations.SlipLayerWritesOnlyTheParser : Prop :=
  ∀ (i : Instr) (s t : State),
    (i ∈ [Instr.rxbEndHunt, .rxbEsc, .rxbEscEnd, .rxbEscEsc] ∨
      ∃ b : Byte, i = .rxbOtherHunt b ∨ i = .rxbBadEscape b ∨ i = .rxbData b) →
    exec i s = .next t →
    t = { s with rxMode := t.rxMode, esc := t.esc, rxBuf := t.rxBuf, rxLen := t.rxLen, events := t.events }

/-- Derived from R101 and R103 to R108 (R110's own inference): from HUNT, the received bytes of a stuffed sequence
`B` between delimiters make exactly one `ProcessFrame(B)`, with nothing logged before it. The ports, the turns and
the storage of `rx_buf` are the model's own (log entries 3 and 4). -/
def Obligations.StuffedFrameIsProcessedOnce : Prop :=
  ∀ (B rest : List Byte) (ts : List Agent) (s : State), 1 ≤ B.length → B.length ≤ 4099 →
    s.rxMode = .hunt → Memory.wf s.rxBuf = true → s.rxPort = wireFrame B ++ rest →
    s.turns = List.replicate (wireFrame B).length .intake ++ ts →
    runSteps (wireFrame B).length s = .next (processFrame B
      { s with rxMode := .hunt, esc := false, rxLen := 0, rxBuf := writeBytes s.rxBuf 0 B, rxPort := rest, turns := ts })

/-- R100, R57: what the stuffer puts on the transmit stream for the two reserved byte values; nothing else changes.
That the two rows of the table stand as instructions of their own is the model's choice (log entry 6). -/
def Obligations.StufferSendsTheEscapes : Prop :=
  ∀ s : State, exec .txStuffEnd s = .next { s with txStream := s.txStream ++ [0xDB, 0xDC] } ∧
    exec .txStuffEsc s = .next { s with txStream := s.txStream ++ [0xDB, 0xDD] }

/-! ### The frame pipeline -/

/-- R142: a frame of any type whose checksum does not verify is dropped with one record and no other change. -/
def Obligations.BadChecksumDropsFrame : Prop :=
  ∀ (t : PacketType) (h : FrameHeader) (p : List Byte) (s : State),
    cks (headerByte0 h) (headerByte1 t h) (headerByte2 h) ≠ h.checksum →
    exec (frameInstr (packetClass t) h p) s = .next { s with events := s.events ++ [.wChecksum] }

/-- R148, in the order of R140: a frame of any type, in any state, that verifies and whose byte count disagrees with its
length field completes, and under EXACT its only effect is one `E_LENGTH` record; under IGNORE it goes on, shown on an
unreliable payload frame, which is stored as received (every statement with the premise `Admitted` covers the other
frames under IGNORE). The policy is an open parameter (log entry 2). -/
def Obligations.LengthDisagreementFollowsThePolicy : Prop :=
  (∀ (t : PacketType) (h : FrameHeader) (p : List Byte) (s : State),
    cks (headerByte0 h) (headerByte1 t h) (headerByte2 h) = h.checksum → p.length ≠ h.length.toNat →
    ∃ u : State, exec (frameInstr (packetClass t) h p) s =
      .next (if Config.rxLengthPolicy = .exact then { s with events := s.events ++ [.eLength] } else u)) ∧
  ∀ e ∈ payloadFrames, ∀ (h : FrameHeader) (p : List Byte) (s : State),
    cks (headerByte0 h) (headerByte1 e.1 h) (headerByte2 h) = h.checksum → p.length ≠ h.length.toNat →
    s.linkState = .active → h.reliable = false → s.ackOwed = false → s.fifo.length < 10 →
    exec (e.2 h p) s = .next (if Config.rxLengthPolicy = .exact then { s with events := s.events ++ [.eLength] }
      else { s with rxAck := h.ack, fifo := s.fifo ++ [headerBytes e.1 h ++ p] })

/-- R143: while not ACTIVE, a frame of any type but link control that passes the checks before is dropped with one
record and no other change. -/
def Obligations.ActiveGateDropsFrame : Prop :=
  ∀ (t : PacketType) (h : FrameHeader) (p : List Byte) (s : State),
    cks (headerByte0 h) (headerByte1 t h) (headerByte2 h) = h.checksum →
    (p.length = h.length.toNat ∨ Config.rxLengthPolicy = .ignore) → s.linkState ≠ .active → t ≠ 15 →
    exec (frameInstr (packetClass t) h p) s = .next { s with events := s.events ++ [.wNotActive] }

/-- R144, R147, R149, R190, R191: an in-order reliable payload frame is accepted, queued as received and
acknowledged with the advanced `tx_ack`. -/
def Obligations.InOrderPayloadIsQueuedAndAcknowledged : Prop :=
  ∀ e ∈ payloadFrames, ∀ (h : FrameHeader) (p : List Byte) (s : State), Admitted e.1 h p s →
    h.reliable = true → h.seq = s.txAck → s.fifo.length < 10 →
    exec (e.2 h p) s = .next { s with txAck := s.txAck + 1, oooCount := 0, ackOwed := false, rxAck := h.ack, fifo := s.fifo ++ [headerBytes e.1 h ++ p], txStream := s.txStream ++ wire 0 false 0 (s.txAck + 1) [] }

/-- R191, R266: with ten frames queued the newest is dropped with `E_FIFO_FULL`, after it has been accepted and
acknowledged. -/
def Obligations.FullFifoDropsAnAcknowledgedFrame : Prop :=
  ∀ e ∈ payloadFrames, ∀ (h : FrameHeader) (p : List Byte) (s : State), Admitted e.1 h p s →
    h.reliable = true → h.seq = s.txAck → s.fifo.length = 10 →
    exec (e.2 h p) s = .next { s with txAck := s.txAck + 1, oooCount := 0, ackOwed := false, rxAck := h.ack, events := s.events ++ [.eFifoFull], txStream := s.txStream ++ wire 0 false 0 (s.txAck + 1) [] }

/-- R147, R190, R191: an unreliable payload frame records `rx_ack` and is queued, or dropped by a full FIFO; it is
not sequenced and causes no ACK. -/
def Obligations.UnreliablePayloadIsQueued : Prop :=
  ∀ e ∈ payloadFrames, ∀ (h : FrameHeader) (p : List Byte) (s : State), Admitted e.1 h p s →
    h.reliable = false → s.ackOwed = false →
    (s.fifo.length < 10 →
      exec (e.2 h p) s = .next { s with rxAck := h.ack, fifo := s.fifo ++ [headerBytes e.1 h ++ p] }) ∧
    (s.fifo.length = 10 →
      exec (e.2 h p) s = .next { s with rxAck := h.ack, events := s.events ++ [.eFifoFull] })

/-- R76, R144, R147, R149, R152: an ACK, COMMAND or reserved-type frame is sequenced and acknowledged if reliable,
records `rx_ack`, and has no other effect and no record. -/
def Obligations.SilentFrameIsSequencedOnly : Prop :=
  ∀ (t : PacketType) (mk : FrameHeader → List Byte → Instr) (h : FrameHeader) (p : List Byte) (s : State),
    SilentFrame t mk → Admitted t h p s →
    (h.reliable = true → h.seq = s.txAck →
      exec (mk h p) s = .next { s with txAck := s.txAck + 1, oooCount := 0, ackOwed := false, rxAck := h.ack, txStream := s.txStream ++ wire 0 false 0 (s.txAck + 1) [] }) ∧
    (h.reliable = false → s.ackOwed = false → exec (mk h p) s = .next { s with rxAck := h.ack })

/-- R145, R146, R149: an out-of-order reliable frame of any type is dropped and acknowledged with the unchanged
`tx_ack`; below the threshold the count advances, at the threshold one SYNC_REQ goes out first and the count is
cleared. -/
def Obligations.OutOfOrderFrameIsDroppedAndAcknowledged : Prop :=
  ∀ (t : PacketType) (h : FrameHeader) (p : List Byte) (s : State), Admitted t h p s →
    h.reliable = true → h.seq ≠ s.txAck →
    (s.oooCount.toNat + 1 < 3 → exec (frameInstr (packetClass t) h p) s = .next
      { s with oooCount := s.oooCount + 1, ackOwed := false, events := s.events ++ [.wOutOfOrder], txStream := s.txStream ++ wire 0 false 0 s.txAck [] }) ∧
    (3 ≤ s.oooCount.toNat + 1 → exec (frameInstr (packetClass t) h p) s = .next
      { s with oooCount := 0, ackOwed := false, events := s.events ++ [.wOutOfOrder, .iResync], txStream := s.txStream ++ wire 15 false 0 s.txAck [0x01, 0x7E] ++ wire 0 false 0 s.txAck [] })

/-- R140, R147, R152, R160, R64: a link-control frame that is not dropped runs the message its payload decodes to;
a reliable one is accepted first and acknowledged after the message's own replies. -/
def Obligations.LinkControlFrameRunsItsMessage : Prop :=
  ∀ (h : FrameHeader) (p : List Byte) (s : State), Admitted 15 h p s →
    (h.reliable = false → s.ackOwed = false → ∃ u : State,
      exec (decodeLcPayload p) { s with rxAck := h.ack } = .next u ∧ exec (.frameLinkControl h p) s = .next u) ∧
    (h.reliable = true → h.seq = s.txAck → ∃ u : State,
      exec (decodeLcPayload p) { s with txAck := s.txAck + 1, oooCount := 0, ackOwed := true, rxAck := h.ack } = .next u ∧
      exec (.frameLinkControl h p) s = .next
        { u with ackOwed := false, txStream := u.txStream ++ wire 0 false 0 u.txAck [] })

/-- R128: `crc_present` is sent as 0, and a received `crc_present` bit changes nothing: two frames that both verify and
differ in that bit (and so in the checksum) have the same effect, or, where the frame is queued, the same effect but
for the header bytes of the one slot it is queued in, which is stored as received. -/
def Obligations.CrcPresentIsZeroAndIgnored : Prop :=
  (∀ (t : PacketType) (r : Bool) (s a : Seq) (len : Length),
    ((encodeHeader t r s a len).getD 0 0).getLsbD 6 = false) ∧
  ∀ (t : PacketType) (h h' : FrameHeader) (p : List Byte) (s u : State),
    cks (headerByte0 h) (headerByte1 t h) (headerByte2 h) = h.checksum →
    cks (headerByte0 h') (headerByte1 t h') (headerByte2 h') = h'.checksum →
    h' = { h with crcPresent := !h.crcPresent, checksum := h'.checksum } →
    exec (frameInstr (packetClass t) h p) s = .next u →
    exec (frameInstr (packetClass t) h' p) s = .next u ∨
      (u.fifo = s.fifo ++ [headerBytes t h ++ p] ∧
        exec (frameInstr (packetClass t) h' p) s = .next { u with fifo := s.fifo ++ [headerBytes t h' ++ p] })

/-- Derived from R144, R145 and R149 (R153's own inference): from ACTIVE with no out-of-order count, three reliable
frames of any types, the first not link control, with `seq = t`, `t + 2`, `t` give one acceptance, two counted drops
and three ACKs, each with the advanced `tx_ack`. Only the first reaches the FIFO, if it is a payload frame, and is
dropped there if ten are queued. -/
def Obligations.SkipAndDuplicateAreBothCounted : Prop :=
  ∀ (t1 t2 t3 : PacketType) (h1 h2 h3 : FrameHeader) (p1 p2 p3 : List Byte) (s : State),
    Admitted t1 h1 p1 s → Admitted t2 h2 p2 s → Admitted t3 h3 p3 s → t1 ≠ 15 →
    h1.reliable = true → h2.reliable = true → h3.reliable = true →
    h1.seq = s.txAck → h2.seq = s.txAck + 2 → h3.seq = s.txAck → s.oooCount = 0 →
    execAll [frameInstr (packetClass t1) h1 p1, frameInstr (packetClass t2) h2 p2, frameInstr (packetClass t3) h3 p3] s =
      .next { s with txAck := s.txAck + 1, oooCount := 2, ackOwed := false, rxAck := h1.ack, fifo := s.fifo ++ (if t1 ∈ ([2, 3, 4, 5] : List PacketType) ∧ s.fifo.length ≠ 10 then [headerBytes t1 h1 ++ p1] else []), events := s.events ++ (if t1 ∈ ([2, 3, 4, 5] : List PacketType) ∧ s.fifo.length = 10 then [.eFifoFull] else []) ++ [.wOutOfOrder, .wOutOfOrder], txStream := s.txStream ++ (wire 0 false 0 (s.txAck + 1) [] ++ wire 0 false 0 (s.txAck + 1) [] ++ wire 0 false 0 (s.txAck + 1) []) }

/-- Derived from R145 and R146 (R154's own inference): three consecutive out-of-order reliable frames, of any types,
cause exactly one SYNC_REQ, in the step of the third, and leave the count 0. -/
def Obligations.ThirdOutOfOrderFrameResyncs : Prop :=
  ∀ (t1 t2 t3 : PacketType) (h1 h2 h3 : FrameHeader) (p1 p2 p3 : List Byte) (s : State),
    Admitted t1 h1 p1 s → Admitted t2 h2 p2 s → Admitted t3 h3 p3 s →
    h1.reliable = true → h2.reliable = true → h3.reliable = true →
    h1.seq ≠ s.txAck → h2.seq ≠ s.txAck → h3.seq ≠ s.txAck → s.oooCount = 0 →
    execAll [frameInstr (packetClass t1) h1 p1, frameInstr (packetClass t2) h2 p2, frameInstr (packetClass t3) h3 p3] s =
      .next { s with ackOwed := false, events := s.events ++ [.wOutOfOrder, .wOutOfOrder, .wOutOfOrder, .iResync], txStream := s.txStream ++ (wire 0 false 0 s.txAck [] ++ wire 0 false 0 s.txAck [] ++ wire 15 false 0 s.txAck [0x01, 0x7E] ++ wire 0 false 0 s.txAck []) }

/-- Derived from R140 and R235: a received frame adds at most the records R235 lists, in its order. -/
def Obligations.FrameAddsTheListedRecords : Prop :=
  ∀ (t : PacketType) (h : FrameHeader) (p : List Byte) (s u : State),
    exec (frameInstr (packetClass t) h p) s = .next u →
    ∃ r : List EventCode, u.events = s.events ++ r ∧
      r ∈ [[], [.wChecksum], [.eLength], [.wNotActive], [.wOutOfOrder], [.wOutOfOrder, .iResync], [.eFifoFull],
        [.dUnknownLc], [.evInitComplete]]

/-! ### Link control -/

/-- R161, R163: SYNC_REQ resets an ACTIVE link and is always answered. -/
def Obligations.SyncReqIsAnsweredAndResetsActive : Prop :=
  ∀ (rest : List Byte) (s : State),
    (s.linkState ≠ .active → exec (.lcSyncReq rest) s = .next
      { s with txStream := s.txStream ++ wire 15 false 0 s.txAck [0x02, 0x7D] }) ∧
    (s.linkState = .active → exec (.lcSyncReq rest) s = .next
      { s with linkState := .uninit, txSeq := 0, txAck := 0, rxAck := 0, oooCount := 0, initFired := false, txStream := s.txStream ++ wire 15 false 0 0 [0x02, 0x7D] })

/-- R161, R164, R165: SYNC_RESP resets an ACTIVE link, gives INIT and sends CONFIG_REQ with the advertised window. -/
def Obligations.SyncRespGivesInit : Prop :=
  ∀ (rest : List Byte) (s : State),
    (s.linkState ≠ .active → exec (.lcSyncResp rest) s = .next
      { s with linkState := .init, txStream := s.txStream ++ wire 15 false 0 s.txAck [0x03, 0xFC, Config.advWin.setWidth 8] }) ∧
    (s.linkState = .active → exec (.lcSyncResp rest) s = .next
      { s with linkState := .init, txSeq := 0, txAck := 0, rxAck := 0, oooCount := 0, initFired := false, txStream := s.txStream ++ wire 15 false 0 0 [0x03, 0xFC, Config.advWin.setWidth 8] })

/-- R166, R171: CONFIG_REQ is answered by CONFIG_RESP and this block's own CONFIG_REQ; no register changes. -/
def Obligations.ConfigReqIsAnsweredTwice : Prop :=
  ∀ (rest : List Byte) (s : State), exec (.lcConfigReq rest) s = .next
    { s with txStream := s.txStream ++ wire 15 false 0 s.txAck [0x04, 0x7B] ++ wire 15 false 0 s.txAck [0x03, 0xFC, Config.advWin.setWidth 8] }

/-- R167: CONFIG_RESP adopts a non-zero window, gives ACTIVE from any state and notifies once per handshake. -/
def Obligations.ConfigRespActivatesAndNotifiesOnce : Prop :=
  ∀ (rest : List Byte) (s : State) (w : Seq),
    (w = match rest with
      | [] => s.txWin
      | b :: _ => if b.extractLsb' 0 3 = 0 then s.txWin else b.extractLsb' 0 3) →
    (s.initFired = true → exec (.lcConfigResp rest) s = .next { s with txWin := w, linkState := .active }) ∧
    (s.initFired = false → exec (.lcConfigResp rest) s = .next
      { s with txWin := w, linkState := .active, initFired := true, events := s.events ++ [.evInitComplete] })

/-- R168, R169, R170: the three sleep messages. -/
def Obligations.SleepMessagesSetTheSleepState : Prop :=
  ∀ (rest : List Byte) (s : State),
    exec (.lcSleepReq rest) s = .next { s with sleepState := .sleeping } ∧
    exec (.lcWokenReq rest) s = .next { s with sleepState := .awake } ∧
    exec (.lcWakeupReq rest) s = .next
      { s with sleepState := .awake, txStream := s.txStream ++ wire 15 false 0 s.txAck [0x06, 0xF9] }

/-- R172: an unknown payload only logs; a payload of fewer than two bytes is unknown. -/
def Obligations.UnknownLinkControlOnlyLogs : Prop :=
  (∀ (p : List Byte) (s : State), exec (.lcUnknown p) s = .next { s with events := s.events ++ [.dUnknownLc] }) ∧
  ∀ p : List Byte, p.length < 2 ∨ isKnownSignature p = false → decodeLcPayload p = .lcUnknown p

/-! ### Commands -/

/-- R211: RESET gives the reset registers and an empty FIFO; the marks, the streams and what waits at the ports stay.
What `rx_buf` then holds is left open (R34); the ports are the model's own fields (log entry 4). -/
def Obligations.ResetGivesTheResetRegisters : Prop :=
  ∀ s : State, ∃ m : Memory, exec .cmdReset s = .next { State.reset with rxBuf := m, faultSendLength := s.faultSendLength, oblEarlySend := s.oblEarlySend, refused := s.refused, txStream := s.txStream, deliveries := s.deliveries, events := s.events, rxPort := s.rxPort, cmdPort := s.cmdPort, popRequests := s.popRequests, turns := s.turns }

/-- R212: START resets the protocol state and the parser, keeps the FIFO, runs the consumer and sends SYNC_REQ. -/
def Obligations.StartBeginsTheHandshake : Prop :=
  ∀ s : State, exec .cmdStart s = .next { s with linkState := .uninit, sleepState := .awake, txSeq := 0, txAck := 0, rxAck := 0, txWin := 1, oooCount := 0, ackOwed := false, initFired := false, rxMode := .hunt, esc := false, rxLen := 0, running := true, txStream := s.txStream ++ [0xC0, 0x00, 0x2F, 0x00, 0xD0, 0x01, 0x7E, 0xC0] }

/-- R213: STOP clears `running` and nothing else. -/
def Obligations.StopOnlyClearsRunning : Prop :=
  ∀ s : State, exec .cmdStop s = .next { s with running := false }

/-- R126, R127, R129, R130, R214, R215, R216: SEND. A payload over 4095 bytes only sets the fault mark; otherwise the
frame is sent, reliable and counted for COMMAND and ACL, unreliable with `seq = 0` for the others, and a payload
frame before the init-complete notification sets the obligation mark. -/
def Obligations.SendTransmitsOneFrame : Prop :=
  ∀ (t : PacketType) (p : List Byte) (s : State) (m : Bool),
    (m = (s.oblEarlySend || (decide (t ≠ 0) && decide (t ≠ 15) && !s.initFired))) →
    (4095 < p.length → exec (.cmdSend t p) s = .next { s with faultSendLength := true }) ∧
    (p.length ≤ 4095 → (t = 1 ∨ t = 2) → exec (.cmdSend t p) s = .next
      { s with oblEarlySend := m, txSeq := s.txSeq + 1, txStream := s.txStream ++ wire t true s.txSeq s.txAck p }) ∧
    (p.length ≤ 4095 → t ≠ 1 → t ≠ 2 → exec (.cmdSend t p) s = .next
      { s with oblEarlySend := m, txStream := s.txStream ++ wire t false 0 s.txAck p })

/-- R85, R193, R194: a POP that is enabled delivers the head slot without its header; one that is not is held and
changes no state of the block (that the model counts the POPs outstanding is its own choice, log entry 4). -/
def Obligations.PopDeliversTheHeadOrIsHeld : Prop :=
  ∀ s : State,
    (∀ (slot : List Byte) (rest : List (List Byte)), s.running = true → s.fifo = slot :: rest →
      exec .cmdPop s = .next { s with fifo := rest, deliveries := s.deliveries ++ [{ packetType := (slot.getD 1 0).extractLsb' 0 4, payload := slot.drop 4 }] }) ∧
    (s.running = false ∨ s.fifo = [] → exec .cmdPop s = .next { s with popRequests := s.popRequests + 1 })

/-- R237: a reserved op sets the mark `refused` and changes nothing else. -/
def Obligations.ReservedOpsOnlySetTheMark : Prop :=
  ∀ s : State, ∀ i ∈ [Instr.reservedOp101, .reservedOp110, .reservedOp111], exec i s = .next { s with refused := true }

/-- Derived from R262: START and the peer's SYNC_REQ, SYNC_RESP, CONFIG_REQ and CONFIG_RESP take the block from any
state to ACTIVE with one notification, emitting the frames R262 lists in its order. -/
def Obligations.BootHandshakeReachesActive : Prop :=
  ∀ (w : Byte) (s : State),
    execAll [.cmdStart, .lcSyncReq [], .lcSyncResp [], .lcConfigReq [w], .lcConfigResp []] s = .next
      { s with linkState := .active, sleepState := .awake, txSeq := 0, txAck := 0, rxAck := 0, txWin := 1, oooCount := 0, ackOwed := false, initFired := true, rxMode := .hunt, esc := false, rxLen := 0, running := true, events := s.events ++ [.evInitComplete], txStream := s.txStream ++ ([0xC0, 0x00, 0x2F, 0x00, 0xD0, 0x01, 0x7E, 0xC0] ++ [0xC0, 0x00, 0x2F, 0x00, 0xD0, 0x02, 0x7D, 0xC0] ++ [0xC0, 0x00, 0x3F, 0x00, 0xDB, 0xDC, 0x03, 0xFC, Config.advWin.setWidth 8, 0xC0] ++ [0xC0, 0x00, 0x2F, 0x00, 0xD0, 0x04, 0x7B, 0xC0] ++ [0xC0, 0x00, 0x3F, 0x00, 0xDB, 0xDC, 0x03, 0xFC, Config.advWin.setWidth 8, 0xC0]) }

/-- Derived from R191 (R198's own inference, for any number of frames and any room): frames pushed with no POP fill
the FIFO in arrival order up to ten; each one past that is dropped with one `E_FIFO_FULL` record. -/
def Obligations.PushesFillTheFifoThenDrop : Prop :=
  ∀ (fs : List (List Byte)) (s : State), s.fifo.length ≤ 10 →
    fs.foldl (fun u f => fifoPush f u) s = { s with fifo := s.fifo ++ fs.take (10 - s.fifo.length), events := s.events ++ List.replicate (fs.length - (10 - s.fifo.length)) .eFifoFull }

/-! ### The machine -/

/-- R14, R60: a step runs the instruction that the agent whose turn it is takes from its port, on the state without
it. The turn order and the ports are the model's own (log entry 4). -/
def Obligations.StepRunsTheDecodedInstruction : Prop :=
  ∀ (s : State) (ts : List Agent),
    (∀ (b : Byte) (bs : List Byte) (i : Instr), s.turns = .intake :: ts → s.rxPort = b :: bs →
      decode (.rxByte (match s.rxMode with | .hunt => .hunt | .inFrame => .inFrame s.esc) b) = .instr i →
      step s = exec i { s with turns := ts, rxPort := bs }) ∧
    (∀ (c : Command) (cs : List Command) (i : Instr), s.turns = .host :: ts → s.cmdPort = c :: cs →
      decode (.command c) = .instr i → step s = exec i { s with turns := ts, cmdPort := cs }) ∧
    (∀ n : Nat, s.turns = .consumer :: ts → s.popRequests = n + 1 →
      step s = exec .cmdPop { s with turns := ts, popRequests := n })

/-- Derived from R240, R261 and R263: with no byte, command or POP at the port of the agent whose turn it is, nothing
changes but the turn: the block has no timer. The ports and the turns are the model's own (log entry 4). -/
def Obligations.NothingHappensWithoutAStimulus : Prop :=
  ∀ (s : State),
    (s.turns = [] → step s = .next s) ∧
    (∀ ts : List Agent, s.turns = .intake :: ts → s.rxPort = [] → step s = .next { s with turns := ts }) ∧
    (∀ ts : List Agent, s.turns = .host :: ts → s.cmdPort = [] → step s = .next { s with turns := ts }) ∧
    (∀ ts : List Agent, s.turns = .consumer :: ts → s.popRequests = 0 → step s = .next { s with turns := ts })

/-- Derived from R34, R35 and R38 (its own inference): every step keeps the invariants that hold at step boundaries.
The canonical form of the storage of `rx_buf` is the model's own (log entry 3). -/
def Obligations.EveryStepKeepsTheInvariants : Prop :=
  ∀ s t : State, s.Inv → step s = .next t → t.Inv

/-- R38, R211: the invariants hold after reset; of the storage of `rx_buf` that is the model's choice (log entry 3). -/
def Obligations.ResetMeetsTheInvariants : Prop := State.reset.Inv

/-- R36, R238: no step clears a model mark. -/
def Obligations.NoStepClearsAMark : Prop :=
  ∀ s t : State, step s = .next t →
    (s.faultSendLength = true → t.faultSendLength = true) ∧ (s.oblEarlySend = true → t.oblEarlySend = true) ∧
    (s.refused = true → t.refused = true)

/-- Derived from R232, R236 and R237: no error traps, and a raised fault and a refused op only set their marks, so every
step of every state gives a next state. That no step ends in the host interface's fault or refusal is the model's
inference from these rules (log entry 11), and that a step with no turn left gives the state itself is the model's
choice (log entry 4). -/
def Obligations.NoStepStops : Prop := ∀ s : State, ∃ t : State, step s = .next t

/-- R37, R242: the three streams are append-only, and no rule reads them: what a step appends and everything else it
does are the same whatever they hold. -/
def Obligations.StreamsAreAppendOnlyAndNeverRead : Prop :=
  ∀ s t : State, step s = .next t → ∃ (dx : List Byte) (dd : List Delivery) (de : List EventCode),
    t.txStream = s.txStream ++ dx ∧ t.deliveries = s.deliveries ++ dd ∧ t.events = s.events ++ de ∧
    ∀ (a : List Byte) (b : List Delivery) (c : List EventCode),
      step { s with txStream := a, deliveries := b, events := c } =
        .next { t with txStream := a ++ dx, deliveries := b ++ dd, events := c ++ de }

/-- R23, R243: the sleep state gates nothing: another sleep state changes nothing else that a step does. -/
def Obligations.SleepStateGatesNothing : Prop :=
  ∀ (s t : State) (x : SleepState), step s = .next t →
    ∃ y : SleepState, step { s with sleepState := x } = .next { t with sleepState := y }

/-- R26, R27, R150, R151: `tx_win` and `rx_ack` drive nothing: other values of them change nothing else that a step
does, so there is no send window and no retransmission. -/
def Obligations.WindowAndRecordedAckDriveNothing : Prop :=
  ∀ (s t : State) (w a : Seq), step s = .next t →
    ∃ w' a' : Seq, step { s with txWin := w, rxAck := a } = .next { t with txWin := w', rxAck := a' }

/-- R160, R213, R272: the intake agent's step does not depend on `running`, and does not change it. -/
def Obligations.IntakeIgnoresRunning : Prop :=
  ∀ (s t : State) (ts : List Agent) (r : Bool), s.turns = .intake :: ts → step s = .next t →
    t.running = s.running ∧ step { s with running := r } = .next { t with running := r }

/-- R62, R199: the consumer's step touches the FIFO and the delivery stream only; and the step keeps two states equal
that differ in nothing but the FIFO, the records, the deliveries and the POPs held: no register, transmitted byte or
mark depends on them. The POPs held and the turn are the model's own (log entry 4). -/
def Obligations.ConsumerAndProtocolAreSeparate : Prop :=
  (∀ (s t : State) (ts : List Agent), s.turns = .consumer :: ts → step s = .next t →
    t = { s with fifo := t.fifo, deliveries := t.deliveries, popRequests := t.popRequests, turns := ts }) ∧
  (∀ (s t : State) (q : List (List Byte)) (ev : List EventCode) (dl : List Delivery) (n : Nat), step s = .next t →
    ∃ (q' : List (List Byte)) (ev' : List EventCode) (dl' : List Delivery) (n' : Nat),
      step { s with fifo := q, events := ev, deliveries := dl, popRequests := n } =
        .next { t with fifo := q', events := ev', deliveries := dl', popRequests := n' })

/-- Derived from R143, R152 and R191 (R190's own inference): a step that queues a frame is an intake step taken while
ACTIVE, and the frame it queues is of type ACL, SCO, EVENT or ISO. -/
def Obligations.FramesAreQueuedOnlyWhileActive : Prop :=
  ∀ s t : State, step s = .next t → s.fifo.length < t.fifo.length →
    s.linkState = .active ∧ s.turns.head? = some .intake ∧
    ∃ f : List Byte, t.fifo = s.fifo ++ [f] ∧ (f.getD 1 0).extractLsb' 0 4 ∈ ([2, 3, 4, 5] : List PacketType)

/-- R22, R167: the link becomes ACTIVE only in an intake step whose delimiter closes a link-control frame that carries
CONFIG_RESP, passes the checks (its checksum, its length as the policy asks) and is not dropped as out of order. -/
def Obligations.OnlyConfigRespActivates : Prop :=
  ∀ s t : State, step s = .next t → s.linkState ≠ .active → t.linkState = .active →
    s.turns.head? = some .intake ∧ s.rxPort.head? = some 0xC0 ∧ s.rxMode = .inFrame ∧ s.esc = false ∧
    ∃ (h : FrameHeader) (rest : List Byte), collectedFrame s = headerBytes 15 h ++ 0x04 :: 0x7B :: rest ∧
      Admitted 15 h (0x04 :: 0x7B :: rest) s ∧ (h.reliable = true → h.seq = s.txAck)

/-- R30, R161, R167, R211, R212: the init-complete notification is given only by a step that sets `init_fired`, and at
most once by a step; and `init_fired`, once set, stays set until a step that leaves the link not ACTIVE, which is a
host command (RESET, START) or a step taken while ACTIVE (a peer reset). So between two notifications the link has
left ACTIVE: each handshake gives one. -/
def Obligations.InitCompleteFiresOncePerHandshake : Prop :=
  ∀ s t : State, step s = .next t →
    (t.events.count .evInitComplete = s.events.count .evInitComplete ∨
      (s.initFired = false ∧ t.initFired = true ∧ t.linkState = .active ∧
        t.events.count .evInitComplete = s.events.count .evInitComplete + 1)) ∧
    (s.initFired = true → t.initFired = false →
      t.linkState ≠ .active ∧ (s.turns.head? = some .host ∨ (s.turns.head? = some .intake ∧ s.linkState = .active)))
end

