-- ==== Sys2Proof/Laws/Codec.lean ====
section
/-! SUPPORT. The header's fields and bytes undo each other, and the packet classes and link-control messages are
read from the codes they have. -/

namespace Sys2Proof

theorem packetTypeOf_headerByte1 (t : PacketType) (h : FrameHeader) : packetTypeOf (headerByte1 t h) = t := by
  apply BitVec.eq_of_getLsbD_eq
  intro i hi
  rw [packetTypeOf, BitVec.getLsbD_extractLsb', headerByte1, BitVec.getLsbD_append]
  simp [hi]

theorem headerOf_headerBytes (t : PacketType) (h : FrameHeader) :
    headerOf (headerByte0 h) (headerByte1 t h) (headerByte2 h) h.checksum = h := by
  obtain ⟨r, c, a, s, l, k⟩ := h
  have e1 : (headerByte0 ⟨r, c, a, s, l, k⟩).getLsbD 7 = r ∧ (headerByte0 ⟨r, c, a, s, l, k⟩).getLsbD 6 = c ∧
      (headerByte0 ⟨r, c, a, s, l, k⟩).extractLsb' 3 3 = a ∧ (headerByte0 ⟨r, c, a, s, l, k⟩).extractLsb' 0 3 = s := by
    simp only [headerByte0]
    revert r c a s
    decide
  have e2 : (headerByte2 ⟨r, c, a, s, l, k⟩ ++ (headerByte1 t ⟨r, c, a, s, l, k⟩).extractLsb' 4 4 : Length) = l := by
    apply BitVec.eq_of_getLsbD_eq
    intro i hi
    simp only [headerByte1, headerByte2, BitVec.getLsbD_append, BitVec.getLsbD_extractLsb']
    by_cases h4 : i < 4
    · simp [h4]
    · have h8 : i - 4 < 8 := by omega
      have h44 : 4 + (i - 4) = i := by omega
      simp [h4, h8, h44]
  simp only [headerOf, e1, e2]

@[simp] theorem headerBytes_length (t : PacketType) (h : FrameHeader) : (headerBytes t h).length = 4 := rfl

/-- The header bytes are those the fields were read from: no bit of a header is dropped. -/
theorem headerBytes_headerOf (h0 h1 h2 h3 : Byte) :
    headerBytes (packetTypeOf h1) (headerOf h0 h1 h2 h3) = [h0, h1, h2, h3] := by
  have e0 : headerByte0 (headerOf h0 h1 h2 h3) = h0 := by
    simp only [headerByte0, headerOf]
    revert h0
    decide
  have e1 : headerByte1 (packetTypeOf h1) (headerOf h0 h1 h2 h3) = h1 := by
    apply BitVec.eq_of_getLsbD_eq
    intro i hi
    simp only [headerByte1, headerOf, packetTypeOf, BitVec.getLsbD_append, BitVec.getLsbD_extractLsb']
    by_cases h4 : i < 4
    · simp [h4]
    · have h44 : i - 4 < 4 := by omega
      have h45 : 4 + (i - 4) = i := by omega
      simp [h4, h44, h45]
  have e2 : headerByte2 (headerOf h0 h1 h2 h3) = h2 := by
    apply BitVec.eq_of_getLsbD_eq
    intro i hi
    simp only [headerByte2, headerOf, BitVec.getLsbD_extractLsb', BitVec.getLsbD_append]
    have h4 : ¬ 4 + i < 4 := by omega
    have h5 : 4 + i - 4 = i := by omega
    simp [hi, h4, h5]
  have e3 : (headerOf h0 h1 h2 h3).checksum = h3 := rfl
  simp only [headerBytes, e0, e1, e2, e3]

/-- A frame instruction's frame decodes to the instruction of its packet class. -/
theorem decodeFrame_headerBytes (t : PacketType) (h : FrameHeader) (p : List Byte) :
    decodeFrame (headerBytes t h ++ p) = .instr (frameInstr (packetClass t) h p) := by
  simp only [headerBytes, List.cons_append, List.nil_append, decodeFrame, packetTypeOf_headerByte1,
    headerOf_headerBytes]

namespace Machine

@[simp] theorem stuff_append : ∀ (s t : List Byte), stuff (s ++ t) = stuff s ++ stuff t
  | [], _ => rfl
  | b :: s, t => by simp [stuff, stuff_append s t]

/-- The one byte or the two that a data byte becomes. -/
theorem encodeByte_cases (b : Byte) :
    (b = 0xC0 ∧ encodeByte b = [0xDB, 0xDC]) ∨ (b = 0xDB ∧ encodeByte b = [0xDB, 0xDD]) ∨
      (b ≠ 0xC0 ∧ b ≠ 0xDB ∧ encodeByte b = [b]) := by
  unfold encodeByte
  split
  · exact .inl ⟨‹_›, rfl⟩
  · split
    · exact .inr (.inl ⟨‹_›, rfl⟩)
    · exact .inr (.inr ⟨‹_›, ‹_›, rfl⟩)

/-- `ADV_WIN` is in [1,7] whatever the parameter is. -/
theorem advWin_ne_zero : Config.advWin ≠ 0 := by
  unfold Config.advWin
  have : ∀ k : Fin 7, BitVec.ofNat 3 (k.val + 1) ≠ 0 := by decide
  exact this _

end Machine

end Sys2Proof
end

