-- ==== Sys2Proof/Laws/Memory.lean ====
section
/-! SUPPORT. The storage of `rx_buf`: a read after a write, and the canonical form kept by every write. -/

namespace Sys2Proof.Machine

theorem Memory.wfFrom_mono {lo lo' : Nat} (hle : lo' ≤ lo) : ∀ {m : Memory}, Memory.wfFrom lo m = true → Memory.wfFrom lo' m = true
  | [], _ => rfl
  | (a, v) :: m, h => by
    simp only [Memory.wfFrom, Bool.and_eq_true, decide_eq_true_eq] at h ⊢
    exact ⟨⟨⟨Nat.le_trans hle h.1.1.1, h.1.1.2⟩, h.1.2⟩, h.2⟩

/-- An index under the lowest listed one reads as blank. -/
theorem readByte_of_lt : ∀ {m : Memory} {lo a : Nat}, Memory.wfFrom lo m = true → a < lo → readByte m a = blankByte
  | [], _, _, _, _ => rfl
  | (b, v) :: m, lo, a, h, hlt => by
    simp only [Memory.wfFrom, Bool.and_eq_true, decide_eq_true_eq] at h
    have hba : b ≠ a := by omega
    simp only [readByte, if_neg hba]
    exact readByte_of_lt h.2 (by omega)

theorem readByte_consCell_same {m : Memory} {a : Nat} {v : Byte} (h : Memory.wfFrom (a + 1) m = true) :
    readByte (consCell a v m) a = v := by
  unfold consCell
  split
  · rename_i hv
    rw [hv]
    exact readByte_of_lt h (Nat.lt_succ_self a)
  · simp [readByte]

theorem readByte_consCell_other {m : Memory} {a b : Nat} {v : Byte} (h : a ≠ b) :
    readByte (consCell a v m) b = readByte m b := by
  unfold consCell
  split
  · rfl
  · simp [readByte, h]

theorem readByte_writeByte_same : ∀ {m : Memory} {lo a : Nat} {v : Byte}, Memory.wfFrom lo m = true →
    readByte (writeByte m a v) a = v
  | [], _, _, _, _ => readByte_consCell_same rfl
  | (b, w) :: m, lo, a, v, h => by
    have h' := h
    simp only [Memory.wfFrom, Bool.and_eq_true, decide_eq_true_eq] at h
    unfold writeByte
    split
    · apply readByte_consCell_same
      simp only [Memory.wfFrom, Bool.and_eq_true, decide_eq_true_eq]
      exact ⟨⟨⟨by omega, h.1.1.2⟩, h.1.2⟩, h.2⟩
    · split
      · rename_i _ hab
        subst hab
        exact readByte_consCell_same h.2
      · rename_i _ hab
        have hba : b ≠ a := fun e => hab e.symm
        simp only [readByte, if_neg hba]
        exact readByte_writeByte_same h.2

theorem readByte_writeByte_other {a b : Nat} {v : Byte} (hne : a ≠ b) : ∀ {m : Memory},
    readByte (writeByte m a v) b = readByte m b
  | [] => readByte_consCell_other hne
  | (c, w) :: m => by
    unfold writeByte
    split
    · exact readByte_consCell_other hne
    · split
      · rename_i _ hac
        rw [readByte_consCell_other hne]
        simp [readByte, ← hac, hne]
      · simp only [readByte]
        split
        · rfl
        · exact readByte_writeByte_other hne

theorem wfFrom_consCell {m : Memory} {lo a : Nat} {v : Byte} (hlo : lo ≤ a) (ha : a < Config.maxFrame)
    (h : Memory.wfFrom (a + 1) m = true) : Memory.wfFrom lo (consCell a v m) = true := by
  unfold consCell
  split
  · exact Memory.wfFrom_mono (by omega) h
  · rename_i hv
    simp only [Memory.wfFrom, Bool.and_eq_true, decide_eq_true_eq, bne_iff_ne, ne_eq]
    exact ⟨⟨⟨hlo, ha⟩, hv⟩, h⟩

theorem wfFrom_writeByte {a : Nat} {v : Byte} (ha : a < Config.maxFrame) : ∀ {m : Memory} {lo : Nat}, lo ≤ a →
    Memory.wfFrom lo m = true → Memory.wfFrom lo (writeByte m a v) = true
  | [], _, hlo, _ => wfFrom_consCell hlo ha rfl
  | (b, w) :: m, lo, hlo, h => by
    have h' := h
    simp only [Memory.wfFrom, Bool.and_eq_true, decide_eq_true_eq] at h
    unfold writeByte
    split
    · apply wfFrom_consCell hlo ha
      simp only [Memory.wfFrom, Bool.and_eq_true, decide_eq_true_eq]
      exact ⟨⟨⟨by omega, h.1.1.2⟩, h.1.2⟩, h.2⟩
    · split
      · rename_i _ hab
        subst hab
        exact wfFrom_consCell hlo ha h.2
      · simp only [Memory.wfFrom, Bool.and_eq_true, decide_eq_true_eq]
        exact ⟨⟨⟨h.1.1.1, h.1.1.2⟩, h.1.2⟩, wfFrom_writeByte ha (by omega) h.2⟩

/-- A write inside the 4099 bytes keeps the canonical form. -/
theorem wf_writeByte {m : Memory} {a : Nat} {v : Byte} (ha : a < Config.maxFrame) (h : Memory.wf m = true) :
    Memory.wf (writeByte m a v) = true := wfFrom_writeByte ha (Nat.zero_le a) h

/-- A run of writes inside the 4099 bytes keeps the canonical form. -/
theorem wf_writeBytes : ∀ {bs : List Byte} {m : Memory} {a : Nat}, a + bs.length ≤ Config.maxFrame →
    Memory.wf m = true → Memory.wf (writeBytes m a bs) = true
  | [], _, _, _, h => h
  | v :: bs, m, a, hle, h => by
    simp only [List.length_cons] at hle
    have h1 : Memory.wf (writeByte m a v) = true := wf_writeByte (by omega) h
    exact wf_writeBytes (bs := bs) (by omega) h1

theorem readByte_writeBytes_of_lt : ∀ {bs : List Byte} {m : Memory} {a b : Nat}, b < a →
    readByte (writeBytes m a bs) b = readByte m b
  | [], _, _, _, _ => rfl
  | v :: bs, m, a, b, h => by
    simp only [writeBytes]
    rw [readByte_writeBytes_of_lt (by omega), readByte_writeByte_other (by omega)]

@[simp] theorem readBytes_length : ∀ {n : Nat} {m : Memory} {a : Nat}, (readBytes m a n).length = n
  | 0, _, _ => rfl
  | n + 1, m, a => by simp [readBytes, readBytes_length]

/-- Bytes written are read back. -/
theorem readBytes_writeBytes : ∀ {bs : List Byte} {m : Memory} {a : Nat}, a + bs.length ≤ Config.maxFrame →
    Memory.wf m = true → readBytes (writeBytes m a bs) a bs.length = bs
  | [], _, _, _, _ => rfl
  | v :: bs, m, a, hle, h => by
    simp only [List.length_cons] at hle ⊢
    simp only [readBytes, writeBytes]
    rw [readByte_writeBytes_of_lt (Nat.lt_succ_self a), readByte_writeByte_same h,
      readBytes_writeBytes (by omega) (wf_writeByte (by omega) h)]

/-- A longer read is a shorter one and one byte more. -/
theorem readBytes_snoc : ∀ (n a : Nat) (m : Memory), readBytes m a (n + 1) = readBytes m a n ++ [readByte m (a + n)]
  | 0, _, _ => rfl
  | n + 1, a, m => by
    have e : a + 1 + n = a + (n + 1) := by omega
    rw [readBytes, readBytes_snoc n (a + 1) m, readBytes, List.cons_append, e]

/-- Storages that agree on a range read alike over it. -/
theorem readBytes_congr : ∀ (n a : Nat) (m m' : Memory),
    (∀ b, a ≤ b → b < a + n → readByte m b = readByte m' b) → readBytes m a n = readBytes m' a n
  | 0, _, _, _, _ => rfl
  | n + 1, a, m, m', h => by
    rw [readBytes, readBytes, h a (by omega) (by omega),
      readBytes_congr n (a + 1) m m' (fun b h1 h2 => h b (by omega) (by omega))]

end Sys2Proof.Machine
end

