-- ==== Sys2Proof/Laws/State.lean ====
section
/-! SUPPORT. What each named update of State leaves in each field: one lemma per field per update, true by rfl. -/

namespace Sys2Proof.Machine

@[simp] theorem logRecord_linkState (e : EventCode) (s : State) : (logRecord e s).linkState = s.linkState := rfl
@[simp] theorem logRecord_sleepState (e : EventCode) (s : State) : (logRecord e s).sleepState = s.sleepState := rfl
@[simp] theorem logRecord_txSeq (e : EventCode) (s : State) : (logRecord e s).txSeq = s.txSeq := rfl
@[simp] theorem logRecord_txAck (e : EventCode) (s : State) : (logRecord e s).txAck = s.txAck := rfl
@[simp] theorem logRecord_rxAck (e : EventCode) (s : State) : (logRecord e s).rxAck = s.rxAck := rfl
@[simp] theorem logRecord_txWin (e : EventCode) (s : State) : (logRecord e s).txWin = s.txWin := rfl
@[simp] theorem logRecord_oooCount (e : EventCode) (s : State) : (logRecord e s).oooCount = s.oooCount := rfl
@[simp] theorem logRecord_ackOwed (e : EventCode) (s : State) : (logRecord e s).ackOwed = s.ackOwed := rfl
@[simp] theorem logRecord_initFired (e : EventCode) (s : State) : (logRecord e s).initFired = s.initFired := rfl
@[simp] theorem logRecord_running (e : EventCode) (s : State) : (logRecord e s).running = s.running := rfl
@[simp] theorem logRecord_rxMode (e : EventCode) (s : State) : (logRecord e s).rxMode = s.rxMode := rfl
@[simp] theorem logRecord_esc (e : EventCode) (s : State) : (logRecord e s).esc = s.esc := rfl
@[simp] theorem logRecord_rxBuf (e : EventCode) (s : State) : (logRecord e s).rxBuf = s.rxBuf := rfl
@[simp] theorem logRecord_rxLen (e : EventCode) (s : State) : (logRecord e s).rxLen = s.rxLen := rfl
@[simp] theorem logRecord_fifo (e : EventCode) (s : State) : (logRecord e s).fifo = s.fifo := rfl
@[simp] theorem logRecord_faultSendLength (e : EventCode) (s : State) : (logRecord e s).faultSendLength = s.faultSendLength := rfl
@[simp] theorem logRecord_oblEarlySend (e : EventCode) (s : State) : (logRecord e s).oblEarlySend = s.oblEarlySend := rfl
@[simp] theorem logRecord_refused (e : EventCode) (s : State) : (logRecord e s).refused = s.refused := rfl
@[simp] theorem logRecord_txStream (e : EventCode) (s : State) : (logRecord e s).txStream = s.txStream := rfl
@[simp] theorem logRecord_deliveries (e : EventCode) (s : State) : (logRecord e s).deliveries = s.deliveries := rfl
@[simp] theorem logRecord_events (e : EventCode) (s : State) : (logRecord e s).events = s.events ++ [e] := rfl
@[simp] theorem logRecord_rxPort (e : EventCode) (s : State) : (logRecord e s).rxPort = s.rxPort := rfl
@[simp] theorem logRecord_cmdPort (e : EventCode) (s : State) : (logRecord e s).cmdPort = s.cmdPort := rfl
@[simp] theorem logRecord_popRequests (e : EventCode) (s : State) : (logRecord e s).popRequests = s.popRequests := rfl
@[simp] theorem logRecord_turns (e : EventCode) (s : State) : (logRecord e s).turns = s.turns := rfl

@[simp] theorem emit_linkState (bs : List Byte) (s : State) : (emit bs s).linkState = s.linkState := rfl
@[simp] theorem emit_sleepState (bs : List Byte) (s : State) : (emit bs s).sleepState = s.sleepState := rfl
@[simp] theorem emit_txSeq (bs : List Byte) (s : State) : (emit bs s).txSeq = s.txSeq := rfl
@[simp] theorem emit_txAck (bs : List Byte) (s : State) : (emit bs s).txAck = s.txAck := rfl
@[simp] theorem emit_rxAck (bs : List Byte) (s : State) : (emit bs s).rxAck = s.rxAck := rfl
@[simp] theorem emit_txWin (bs : List Byte) (s : State) : (emit bs s).txWin = s.txWin := rfl
@[simp] theorem emit_oooCount (bs : List Byte) (s : State) : (emit bs s).oooCount = s.oooCount := rfl
@[simp] theorem emit_ackOwed (bs : List Byte) (s : State) : (emit bs s).ackOwed = s.ackOwed := rfl
@[simp] theorem emit_initFired (bs : List Byte) (s : State) : (emit bs s).initFired = s.initFired := rfl
@[simp] theorem emit_running (bs : List Byte) (s : State) : (emit bs s).running = s.running := rfl
@[simp] theorem emit_rxMode (bs : List Byte) (s : State) : (emit bs s).rxMode = s.rxMode := rfl
@[simp] theorem emit_esc (bs : List Byte) (s : State) : (emit bs s).esc = s.esc := rfl
@[simp] theorem emit_rxBuf (bs : List Byte) (s : State) : (emit bs s).rxBuf = s.rxBuf := rfl
@[simp] theorem emit_rxLen (bs : List Byte) (s : State) : (emit bs s).rxLen = s.rxLen := rfl
@[simp] theorem emit_fifo (bs : List Byte) (s : State) : (emit bs s).fifo = s.fifo := rfl
@[simp] theorem emit_faultSendLength (bs : List Byte) (s : State) : (emit bs s).faultSendLength = s.faultSendLength := rfl
@[simp] theorem emit_oblEarlySend (bs : List Byte) (s : State) : (emit bs s).oblEarlySend = s.oblEarlySend := rfl
@[simp] theorem emit_refused (bs : List Byte) (s : State) : (emit bs s).refused = s.refused := rfl
@[simp] theorem emit_txStream (bs : List Byte) (s : State) : (emit bs s).txStream = s.txStream ++ bs := rfl
@[simp] theorem emit_deliveries (bs : List Byte) (s : State) : (emit bs s).deliveries = s.deliveries := rfl
@[simp] theorem emit_events (bs : List Byte) (s : State) : (emit bs s).events = s.events := rfl
@[simp] theorem emit_rxPort (bs : List Byte) (s : State) : (emit bs s).rxPort = s.rxPort := rfl
@[simp] theorem emit_cmdPort (bs : List Byte) (s : State) : (emit bs s).cmdPort = s.cmdPort := rfl
@[simp] theorem emit_popRequests (bs : List Byte) (s : State) : (emit bs s).popRequests = s.popRequests := rfl
@[simp] theorem emit_turns (bs : List Byte) (s : State) : (emit bs s).turns = s.turns := rfl

@[simp] theorem parserToHunt_linkState (s : State) : (parserToHunt s).linkState = s.linkState := rfl
@[simp] theorem parserToHunt_sleepState (s : State) : (parserToHunt s).sleepState = s.sleepState := rfl
@[simp] theorem parserToHunt_txSeq (s : State) : (parserToHunt s).txSeq = s.txSeq := rfl
@[simp] theorem parserToHunt_txAck (s : State) : (parserToHunt s).txAck = s.txAck := rfl
@[simp] theorem parserToHunt_rxAck (s : State) : (parserToHunt s).rxAck = s.rxAck := rfl
@[simp] theorem parserToHunt_txWin (s : State) : (parserToHunt s).txWin = s.txWin := rfl
@[simp] theorem parserToHunt_oooCount (s : State) : (parserToHunt s).oooCount = s.oooCount := rfl
@[simp] theorem parserToHunt_ackOwed (s : State) : (parserToHunt s).ackOwed = s.ackOwed := rfl
@[simp] theorem parserToHunt_initFired (s : State) : (parserToHunt s).initFired = s.initFired := rfl
@[simp] theorem parserToHunt_running (s : State) : (parserToHunt s).running = s.running := rfl
@[simp] theorem parserToHunt_rxMode (s : State) : (parserToHunt s).rxMode = .hunt := rfl
@[simp] theorem parserToHunt_esc (s : State) : (parserToHunt s).esc = s.esc := rfl
@[simp] theorem parserToHunt_rxBuf (s : State) : (parserToHunt s).rxBuf = s.rxBuf := rfl
@[simp] theorem parserToHunt_rxLen (s : State) : (parserToHunt s).rxLen = 0 := rfl
@[simp] theorem parserToHunt_fifo (s : State) : (parserToHunt s).fifo = s.fifo := rfl
@[simp] theorem parserToHunt_faultSendLength (s : State) : (parserToHunt s).faultSendLength = s.faultSendLength := rfl
@[simp] theorem parserToHunt_oblEarlySend (s : State) : (parserToHunt s).oblEarlySend = s.oblEarlySend := rfl
@[simp] theorem parserToHunt_refused (s : State) : (parserToHunt s).refused = s.refused := rfl
@[simp] theorem parserToHunt_txStream (s : State) : (parserToHunt s).txStream = s.txStream := rfl
@[simp] theorem parserToHunt_deliveries (s : State) : (parserToHunt s).deliveries = s.deliveries := rfl
@[simp] theorem parserToHunt_events (s : State) : (parserToHunt s).events = s.events := rfl
@[simp] theorem parserToHunt_rxPort (s : State) : (parserToHunt s).rxPort = s.rxPort := rfl
@[simp] theorem parserToHunt_cmdPort (s : State) : (parserToHunt s).cmdPort = s.cmdPort := rfl
@[simp] theorem parserToHunt_popRequests (s : State) : (parserToHunt s).popRequests = s.popRequests := rfl
@[simp] theorem parserToHunt_turns (s : State) : (parserToHunt s).turns = s.turns := rfl

@[simp] theorem peerReset_linkState (s : State) : (peerReset s).linkState = .uninit := rfl
@[simp] theorem peerReset_sleepState (s : State) : (peerReset s).sleepState = s.sleepState := rfl
@[simp] theorem peerReset_txSeq (s : State) : (peerReset s).txSeq = 0 := rfl
@[simp] theorem peerReset_txAck (s : State) : (peerReset s).txAck = 0 := rfl
@[simp] theorem peerReset_rxAck (s : State) : (peerReset s).rxAck = 0 := rfl
@[simp] theorem peerReset_txWin (s : State) : (peerReset s).txWin = s.txWin := rfl
@[simp] theorem peerReset_oooCount (s : State) : (peerReset s).oooCount = 0 := rfl
@[simp] theorem peerReset_ackOwed (s : State) : (peerReset s).ackOwed = s.ackOwed := rfl
@[simp] theorem peerReset_initFired (s : State) : (peerReset s).initFired = false := rfl
@[simp] theorem peerReset_running (s : State) : (peerReset s).running = s.running := rfl
@[simp] theorem peerReset_rxMode (s : State) : (peerReset s).rxMode = s.rxMode := rfl
@[simp] theorem peerReset_esc (s : State) : (peerReset s).esc = s.esc := rfl
@[simp] theorem peerReset_rxBuf (s : State) : (peerReset s).rxBuf = s.rxBuf := rfl
@[simp] theorem peerReset_rxLen (s : State) : (peerReset s).rxLen = s.rxLen := rfl
@[simp] theorem peerReset_fifo (s : State) : (peerReset s).fifo = s.fifo := rfl
@[simp] theorem peerReset_faultSendLength (s : State) : (peerReset s).faultSendLength = s.faultSendLength := rfl
@[simp] theorem peerReset_oblEarlySend (s : State) : (peerReset s).oblEarlySend = s.oblEarlySend := rfl
@[simp] theorem peerReset_refused (s : State) : (peerReset s).refused = s.refused := rfl
@[simp] theorem peerReset_txStream (s : State) : (peerReset s).txStream = s.txStream := rfl
@[simp] theorem peerReset_deliveries (s : State) : (peerReset s).deliveries = s.deliveries := rfl
@[simp] theorem peerReset_events (s : State) : (peerReset s).events = s.events := rfl
@[simp] theorem peerReset_rxPort (s : State) : (peerReset s).rxPort = s.rxPort := rfl
@[simp] theorem peerReset_cmdPort (s : State) : (peerReset s).cmdPort = s.cmdPort := rfl
@[simp] theorem peerReset_popRequests (s : State) : (peerReset s).popRequests = s.popRequests := rfl
@[simp] theorem peerReset_turns (s : State) : (peerReset s).turns = s.turns := rfl

@[simp] theorem protocolReset_linkState (s : State) : (protocolReset s).linkState = .uninit := rfl
@[simp] theorem protocolReset_sleepState (s : State) : (protocolReset s).sleepState = .awake := rfl
@[simp] theorem protocolReset_txSeq (s : State) : (protocolReset s).txSeq = 0 := rfl
@[simp] theorem protocolReset_txAck (s : State) : (protocolReset s).txAck = 0 := rfl
@[simp] theorem protocolReset_rxAck (s : State) : (protocolReset s).rxAck = 0 := rfl
@[simp] theorem protocolReset_txWin (s : State) : (protocolReset s).txWin = 1 := rfl
@[simp] theorem protocolReset_oooCount (s : State) : (protocolReset s).oooCount = 0 := rfl
@[simp] theorem protocolReset_ackOwed (s : State) : (protocolReset s).ackOwed = false := rfl
@[simp] theorem protocolReset_initFired (s : State) : (protocolReset s).initFired = false := rfl
@[simp] theorem protocolReset_running (s : State) : (protocolReset s).running = s.running := rfl
@[simp] theorem protocolReset_rxMode (s : State) : (protocolReset s).rxMode = .hunt := rfl
@[simp] theorem protocolReset_esc (s : State) : (protocolReset s).esc = false := rfl
@[simp] theorem protocolReset_rxBuf (s : State) : (protocolReset s).rxBuf = s.rxBuf := rfl
@[simp] theorem protocolReset_rxLen (s : State) : (protocolReset s).rxLen = 0 := rfl
@[simp] theorem protocolReset_fifo (s : State) : (protocolReset s).fifo = s.fifo := rfl
@[simp] theorem protocolReset_faultSendLength (s : State) : (protocolReset s).faultSendLength = s.faultSendLength := rfl
@[simp] theorem protocolReset_oblEarlySend (s : State) : (protocolReset s).oblEarlySend = s.oblEarlySend := rfl
@[simp] theorem protocolReset_refused (s : State) : (protocolReset s).refused = s.refused := rfl
@[simp] theorem protocolReset_txStream (s : State) : (protocolReset s).txStream = s.txStream := rfl
@[simp] theorem protocolReset_deliveries (s : State) : (protocolReset s).deliveries = s.deliveries := rfl
@[simp] theorem protocolReset_events (s : State) : (protocolReset s).events = s.events := rfl
@[simp] theorem protocolReset_rxPort (s : State) : (protocolReset s).rxPort = s.rxPort := rfl
@[simp] theorem protocolReset_cmdPort (s : State) : (protocolReset s).cmdPort = s.cmdPort := rfl
@[simp] theorem protocolReset_popRequests (s : State) : (protocolReset s).popRequests = s.popRequests := rfl
@[simp] theorem protocolReset_turns (s : State) : (protocolReset s).turns = s.turns := rfl

@[simp] theorem acceptInOrder_linkState (s : State) : (acceptInOrder s).linkState = s.linkState := rfl
@[simp] theorem acceptInOrder_sleepState (s : State) : (acceptInOrder s).sleepState = s.sleepState := rfl
@[simp] theorem acceptInOrder_txSeq (s : State) : (acceptInOrder s).txSeq = s.txSeq := rfl
@[simp] theorem acceptInOrder_txAck (s : State) : (acceptInOrder s).txAck = s.txAck + 1 := rfl
@[simp] theorem acceptInOrder_rxAck (s : State) : (acceptInOrder s).rxAck = s.rxAck := rfl
@[simp] theorem acceptInOrder_txWin (s : State) : (acceptInOrder s).txWin = s.txWin := rfl
@[simp] theorem acceptInOrder_oooCount (s : State) : (acceptInOrder s).oooCount = 0 := rfl
@[simp] theorem acceptInOrder_ackOwed (s : State) : (acceptInOrder s).ackOwed = true := rfl
@[simp] theorem acceptInOrder_initFired (s : State) : (acceptInOrder s).initFired = s.initFired := rfl
@[simp] theorem acceptInOrder_running (s : State) : (acceptInOrder s).running = s.running := rfl
@[simp] theorem acceptInOrder_rxMode (s : State) : (acceptInOrder s).rxMode = s.rxMode := rfl
@[simp] theorem acceptInOrder_esc (s : State) : (acceptInOrder s).esc = s.esc := rfl
@[simp] theorem acceptInOrder_rxBuf (s : State) : (acceptInOrder s).rxBuf = s.rxBuf := rfl
@[simp] theorem acceptInOrder_rxLen (s : State) : (acceptInOrder s).rxLen = s.rxLen := rfl
@[simp] theorem acceptInOrder_fifo (s : State) : (acceptInOrder s).fifo = s.fifo := rfl
@[simp] theorem acceptInOrder_faultSendLength (s : State) : (acceptInOrder s).faultSendLength = s.faultSendLength := rfl
@[simp] theorem acceptInOrder_oblEarlySend (s : State) : (acceptInOrder s).oblEarlySend = s.oblEarlySend := rfl
@[simp] theorem acceptInOrder_refused (s : State) : (acceptInOrder s).refused = s.refused := rfl
@[simp] theorem acceptInOrder_txStream (s : State) : (acceptInOrder s).txStream = s.txStream := rfl
@[simp] theorem acceptInOrder_deliveries (s : State) : (acceptInOrder s).deliveries = s.deliveries := rfl
@[simp] theorem acceptInOrder_events (s : State) : (acceptInOrder s).events = s.events := rfl
@[simp] theorem acceptInOrder_rxPort (s : State) : (acceptInOrder s).rxPort = s.rxPort := rfl
@[simp] theorem acceptInOrder_cmdPort (s : State) : (acceptInOrder s).cmdPort = s.cmdPort := rfl
@[simp] theorem acceptInOrder_popRequests (s : State) : (acceptInOrder s).popRequests = s.popRequests := rfl
@[simp] theorem acceptInOrder_turns (s : State) : (acceptInOrder s).turns = s.turns := rfl

@[simp] theorem recordAck_linkState (h : FrameHeader) (s : State) : (recordAck h s).linkState = s.linkState := rfl
@[simp] theorem recordAck_sleepState (h : FrameHeader) (s : State) : (recordAck h s).sleepState = s.sleepState := rfl
@[simp] theorem recordAck_txSeq (h : FrameHeader) (s : State) : (recordAck h s).txSeq = s.txSeq := rfl
@[simp] theorem recordAck_txAck (h : FrameHeader) (s : State) : (recordAck h s).txAck = s.txAck := rfl
@[simp] theorem recordAck_rxAck (h : FrameHeader) (s : State) : (recordAck h s).rxAck = h.ack := rfl
@[simp] theorem recordAck_txWin (h : FrameHeader) (s : State) : (recordAck h s).txWin = s.txWin := rfl
@[simp] theorem recordAck_oooCount (h : FrameHeader) (s : State) : (recordAck h s).oooCount = s.oooCount := rfl
@[simp] theorem recordAck_ackOwed (h : FrameHeader) (s : State) : (recordAck h s).ackOwed = s.ackOwed := rfl
@[simp] theorem recordAck_initFired (h : FrameHeader) (s : State) : (recordAck h s).initFired = s.initFired := rfl
@[simp] theorem recordAck_running (h : FrameHeader) (s : State) : (recordAck h s).running = s.running := rfl
@[simp] theorem recordAck_rxMode (h : FrameHeader) (s : State) : (recordAck h s).rxMode = s.rxMode := rfl
@[simp] theorem recordAck_esc (h : FrameHeader) (s : State) : (recordAck h s).esc = s.esc := rfl
@[simp] theorem recordAck_rxBuf (h : FrameHeader) (s : State) : (recordAck h s).rxBuf = s.rxBuf := rfl
@[simp] theorem recordAck_rxLen (h : FrameHeader) (s : State) : (recordAck h s).rxLen = s.rxLen := rfl
@[simp] theorem recordAck_fifo (h : FrameHeader) (s : State) : (recordAck h s).fifo = s.fifo := rfl
@[simp] theorem recordAck_faultSendLength (h : FrameHeader) (s : State) : (recordAck h s).faultSendLength = s.faultSendLength := rfl
@[simp] theorem recordAck_oblEarlySend (h : FrameHeader) (s : State) : (recordAck h s).oblEarlySend = s.oblEarlySend := rfl
@[simp] theorem recordAck_refused (h : FrameHeader) (s : State) : (recordAck h s).refused = s.refused := rfl
@[simp] theorem recordAck_txStream (h : FrameHeader) (s : State) : (recordAck h s).txStream = s.txStream := rfl
@[simp] theorem recordAck_deliveries (h : FrameHeader) (s : State) : (recordAck h s).deliveries = s.deliveries := rfl
@[simp] theorem recordAck_events (h : FrameHeader) (s : State) : (recordAck h s).events = s.events := rfl
@[simp] theorem recordAck_rxPort (h : FrameHeader) (s : State) : (recordAck h s).rxPort = s.rxPort := rfl
@[simp] theorem recordAck_cmdPort (h : FrameHeader) (s : State) : (recordAck h s).cmdPort = s.cmdPort := rfl
@[simp] theorem recordAck_popRequests (h : FrameHeader) (s : State) : (recordAck h s).popRequests = s.popRequests := rfl
@[simp] theorem recordAck_turns (h : FrameHeader) (s : State) : (recordAck h s).turns = s.turns := rfl

@[simp] theorem refuseCommand_linkState (c : Refusal) (s : State) : (refuseCommand c s).linkState = s.linkState := rfl
@[simp] theorem refuseCommand_sleepState (c : Refusal) (s : State) : (refuseCommand c s).sleepState = s.sleepState := rfl
@[simp] theorem refuseCommand_txSeq (c : Refusal) (s : State) : (refuseCommand c s).txSeq = s.txSeq := rfl
@[simp] theorem refuseCommand_txAck (c : Refusal) (s : State) : (refuseCommand c s).txAck = s.txAck := rfl
@[simp] theorem refuseCommand_rxAck (c : Refusal) (s : State) : (refuseCommand c s).rxAck = s.rxAck := rfl
@[simp] theorem refuseCommand_txWin (c : Refusal) (s : State) : (refuseCommand c s).txWin = s.txWin := rfl
@[simp] theorem refuseCommand_oooCount (c : Refusal) (s : State) : (refuseCommand c s).oooCount = s.oooCount := rfl
@[simp] theorem refuseCommand_ackOwed (c : Refusal) (s : State) : (refuseCommand c s).ackOwed = s.ackOwed := rfl
@[simp] theorem refuseCommand_initFired (c : Refusal) (s : State) : (refuseCommand c s).initFired = s.initFired := rfl
@[simp] theorem refuseCommand_running (c : Refusal) (s : State) : (refuseCommand c s).running = s.running := rfl
@[simp] theorem refuseCommand_rxMode (c : Refusal) (s : State) : (refuseCommand c s).rxMode = s.rxMode := rfl
@[simp] theorem refuseCommand_esc (c : Refusal) (s : State) : (refuseCommand c s).esc = s.esc := rfl
@[simp] theorem refuseCommand_rxBuf (c : Refusal) (s : State) : (refuseCommand c s).rxBuf = s.rxBuf := rfl
@[simp] theorem refuseCommand_rxLen (c : Refusal) (s : State) : (refuseCommand c s).rxLen = s.rxLen := rfl
@[simp] theorem refuseCommand_fifo (c : Refusal) (s : State) : (refuseCommand c s).fifo = s.fifo := rfl
@[simp] theorem refuseCommand_faultSendLength (c : Refusal) (s : State) : (refuseCommand c s).faultSendLength = s.faultSendLength := rfl
@[simp] theorem refuseCommand_oblEarlySend (c : Refusal) (s : State) : (refuseCommand c s).oblEarlySend = s.oblEarlySend := rfl
@[simp] theorem refuseCommand_refused (c : Refusal) (s : State) : (refuseCommand c s).refused = true := rfl
@[simp] theorem refuseCommand_txStream (c : Refusal) (s : State) : (refuseCommand c s).txStream = s.txStream := rfl
@[simp] theorem refuseCommand_deliveries (c : Refusal) (s : State) : (refuseCommand c s).deliveries = s.deliveries := rfl
@[simp] theorem refuseCommand_events (c : Refusal) (s : State) : (refuseCommand c s).events = s.events := rfl
@[simp] theorem refuseCommand_rxPort (c : Refusal) (s : State) : (refuseCommand c s).rxPort = s.rxPort := rfl
@[simp] theorem refuseCommand_cmdPort (c : Refusal) (s : State) : (refuseCommand c s).cmdPort = s.cmdPort := rfl
@[simp] theorem refuseCommand_popRequests (c : Refusal) (s : State) : (refuseCommand c s).popRequests = s.popRequests := rfl
@[simp] theorem refuseCommand_turns (c : Refusal) (s : State) : (refuseCommand c s).turns = s.turns := rfl

end Sys2Proof.Machine
end

