-- ==== Sys2Proof/Laws/Ops.lean ====
section
/-! SUPPORT. One lemma per shared operation that says once everything it can do. -/

namespace Sys2Proof.Machine

/-- `TxFrame` writes `tx_seq` (a reliable type only) and the transmit stream, and nothing else. -/
theorem txFrame_eq (t : PacketType) (p : List Byte) (s : State) :
    txFrame t p s = { s with
      txSeq := if sentReliable t then s.txSeq + 1 else s.txSeq,
      txStream := s.txStream ++ wire t (sentReliable t) (sendSeq t s) s.txAck p } := by
  unfold txFrame advanceTxSeq emit
  split <;> rfl

/-- A frame of an unreliable type goes out with `seq = 0` and changes the transmit stream only. -/
theorem txFrame_unreliable {t : PacketType} (h : sentReliable t = false) (p : List Byte) (s : State) :
    txFrame t p s = { s with txStream := s.txStream ++ wire t false 0 s.txAck p } := by
  rw [txFrame_eq]
  simp [h, sendSeq]

/-- A link-control transmission changes the transmit stream only (R162). -/
theorem sendLc_eq (p : List Byte) (s : State) :
    sendLc p s = { s with txStream := s.txStream ++ wire 15 false 0 s.txAck p } :=
  txFrame_unreliable (t := linkControlType) rfl p s

/-- The ACK frame owed goes out, and nothing else changes but the flag (R149). -/
theorem flushAck_eq (s : State) :
    flushAck s = if s.ackOwed then
        { s with ackOwed := false, txStream := s.txStream ++ wire 0 false 0 s.txAck [] } else s := by
  unfold flushAck
  split
  · rw [txFrame_unreliable (t := ackType) rfl]
  · rfl

/-- `BufAppend` stores the byte at `rx_len`, or overflows. -/
theorem bufAppend_cases (v : Byte) (s : State) :
    (s.rxLen = 4099 ∧ bufAppend v s =
        { s with rxMode := .hunt, rxLen := 0, esc := false, events := s.events ++ [.eOversize] }) ∨
      (s.rxLen ≠ 4099 ∧ bufAppend v s =
        { s with rxBuf := writeByte s.rxBuf s.rxLen.toNat v, rxLen := s.rxLen + 1 }) := by
  unfold bufAppend
  split
  · exact .inl ⟨‹_›, rfl⟩
  · exact .inr ⟨‹_›, rfl⟩

/-- `FifoPush` appends the frame, or drops it and logs. -/
theorem fifoPush_cases (f : List Byte) (s : State) :
    (s.fifo.length = 10 ∧ fifoPush f s = { s with events := s.events ++ [.eFifoFull] }) ∨
      (s.fifo.length ≠ 10 ∧ fifoPush f s = { s with fifo := s.fifo ++ [f] }) := by
  unfold fifoPush
  split
  · exact .inl ⟨‹_›, rfl⟩
  · exact .inr ⟨‹_›, rfl⟩

/-- The out-of-order drop: the count below the threshold, or the resync at it. -/
theorem dropOutOfOrder_cases (s : State) :
    (resyncDue s = true ∧ dropOutOfOrder s =
        { s with ackOwed := true, oooCount := 0, events := s.events ++ [.wOutOfOrder, .iResync],
                 txStream := s.txStream ++ wire 15 false 0 s.txAck [0x01, 0x7E] }) ∨
      (resyncDue s = false ∧ dropOutOfOrder s =
        { s with ackOwed := true, oooCount := s.oooCount + 1, events := s.events ++ [.wOutOfOrder] }) := by
  unfold dropOutOfOrder
  cases h : resyncDue s with
  | true =>
    refine .inl ⟨rfl, ?_⟩
    simp [sendLc_eq, syncReqPayload, logRecord]
  | false => exact .inr ⟨rfl, rfl⟩

/-- What the pipeline does with a frame: the four drops in their order, the three ways past them. -/
theorem pipeline_cases (t : PacketType) (h : FrameHeader) (p : List Byte) (d : State → State) (s : State) :
    (headerVerifies t h = false ∧ pipeline t h p d s = logRecord .wChecksum s) ∨
    (headerVerifies t h = true ∧ lengthDrops h p = true ∧ pipeline t h p d s = logRecord .eLength s) ∨
    (headerVerifies t h = true ∧ lengthDrops h p = false ∧ gateDrops t s = true ∧
      pipeline t h p d s = logRecord .wNotActive s) ∨
    (headerVerifies t h = true ∧ lengthDrops h p = false ∧ gateDrops t s = false ∧ h.reliable = false ∧
      pipeline t h p d s = flushAck (d (recordAck h s))) ∨
    (headerVerifies t h = true ∧ lengthDrops h p = false ∧ gateDrops t s = false ∧ h.reliable = true ∧
      h.seq = s.txAck ∧ pipeline t h p d s = flushAck (d (recordAck h (acceptInOrder s)))) ∨
    (headerVerifies t h = true ∧ lengthDrops h p = false ∧ gateDrops t s = false ∧ h.reliable = true ∧
      h.seq ≠ s.txAck ∧ pipeline t h p d s = flushAck (dropOutOfOrder s)) := by
  unfold pipeline sequenceFrame inWindow
  cases headerVerifies t h <;> cases lengthDrops h p <;> cases gateDrops t s <;> cases h.reliable <;>
    by_cases hs : h.seq = s.txAck <;> simp [hs]

end Sys2Proof.Machine
end

