-- ==== Sys2Proof/Laws/Exec.lean ====
section
/-! SUPPORT. What each meaning answers, in one equation, and what a frame of a packet type runs: the provers cite
these instead of unfolding exec. -/

namespace Sys2Proof.Machine

/-- What the dispatch of a packet type does (R152). -/
theorem packetClass_cases (t : PacketType) :
    (t = 0 ∧ packetClass t = .ack) ∨ (t = 1 ∧ packetClass t = .command) ∨ (t = 2 ∧ packetClass t = .acl) ∨
    (t = 3 ∧ packetClass t = .sco) ∨ (t = 4 ∧ packetClass t = .event) ∨ (t = 5 ∧ packetClass t = .iso) ∨
    (t = 15 ∧ packetClass t = .linkControl) ∨ (isReservedType t = true ∧ packetClass t = .reserved t) := by
  revert t
  decide

/-- A frame instruction runs the frame of its class. -/
theorem exec_frameInstr (c : PacketClass) (h : FrameHeader) (p : List Byte) (s : State) :
    exec (frameInstr c h p) s = .next (runFrame c h p s) := by
  cases c <;> rfl

/-- A frame of a type runs the pipeline with a dispatch that pushes the frame, runs the handler or does nothing. -/
theorem runFrame_pipeline (t : PacketType) (h : FrameHeader) (p : List Byte) (s : State) :
    ∃ d : State → State, runFrame (packetClass t) h p s = pipeline t h p d s ∧
      ((t ∈ ([2, 3, 4, 5] : List PacketType) ∧ d = fifoPush (headerBytes t h ++ p)) ∨ (t = 15 ∧ d = linkControl p) ∨
        (t ∉ ([2, 3, 4, 5, 15] : List PacketType) ∧ d = fun x => x)) := by
  rcases packetClass_cases t with ⟨rfl, e⟩ | ⟨rfl, e⟩ | ⟨rfl, e⟩ | ⟨rfl, e⟩ | ⟨rfl, e⟩ | ⟨rfl, e⟩ | ⟨rfl, e⟩ | ⟨hr, e⟩
  · exact ⟨_, by rw [e]; rfl, .inr (.inr ⟨by decide, rfl⟩)⟩
  · exact ⟨_, by rw [e]; rfl, .inr (.inr ⟨by decide, rfl⟩)⟩
  · exact ⟨_, by rw [e]; rfl, .inl ⟨by decide, rfl⟩⟩
  · exact ⟨_, by rw [e]; rfl, .inl ⟨by decide, rfl⟩⟩
  · exact ⟨_, by rw [e]; rfl, .inl ⟨by decide, rfl⟩⟩
  · exact ⟨_, by rw [e]; rfl, .inl ⟨by decide, rfl⟩⟩
  · exact ⟨_, by rw [e]; rfl, .inr (.inl ⟨rfl, rfl⟩)⟩
  · refine ⟨_, by rw [e]; rfl, .inr (.inr ⟨?_, rfl⟩)⟩
    revert hr
    revert t
    decide

/-- `ProcessFrame`: a runt, or the frame its header names. -/
theorem processFrame_cases (f : List Byte) (s : State) :
    (f.length < 4 ∧ processFrame f s = logRecord .eRunt s) ∨
    (∃ (t : PacketType) (h : FrameHeader) (p : List Byte), f = headerBytes t h ++ p ∧
      decodeFrame f = .instr (frameInstr (packetClass t) h p) ∧ processFrame f s = runFrame (packetClass t) h p s) := by
  match f with
  | [] => exact .inl ⟨by decide, rfl⟩
  | [_] => exact .inl ⟨by simp, rfl⟩
  | [_, _] => exact .inl ⟨by simp, rfl⟩
  | [_, _, _] => exact .inl ⟨by simp, rfl⟩
  | h0 :: h1 :: h2 :: h3 :: p =>
    refine .inr ⟨packetTypeOf h1, headerOf h0 h1 h2 h3, p, ?_, rfl, rfl⟩
    rw [headerBytes_headerOf]
    rfl

/-- The message a payload names, and what the handler does with it. -/
theorem exec_decodeLcPayload (p : List Byte) (s : State) : exec (decodeLcPayload p) s = .next (linkControl p s) := by
  unfold decodeLcPayload linkControl
  cases lcMessage p <;> rfl

/-- A step is the fetched instruction, or the passing of a turn. -/
theorem step_cases (s : State) :
    (s.turns = [] ∧ step s = .next s) ∨
    (∃ ts, s.turns = .intake :: ts ∧ s.rxPort = [] ∧ step s = .next { s with turns := ts }) ∨
    (∃ ts b bs, s.turns = .intake :: ts ∧ s.rxPort = b :: bs ∧
      step s = exec (decodeRxByte (rxContext s) b) { s with turns := ts, rxPort := bs }) ∨
    (∃ ts, s.turns = .host :: ts ∧ s.cmdPort = [] ∧ step s = .next { s with turns := ts }) ∨
    (∃ ts c cs, s.turns = .host :: ts ∧ s.cmdPort = c :: cs ∧
      step s = exec (decodeCommand c) { s with turns := ts, cmdPort := cs }) ∨
    (∃ ts, s.turns = .consumer :: ts ∧ s.popRequests = 0 ∧ step s = .next { s with turns := ts }) ∨
    (∃ ts n, s.turns = .consumer :: ts ∧ s.popRequests = n + 1 ∧
      step s = exec .cmdPop { s with turns := ts, popRequests := n }) := by
  unfold step fetch
  match ht : s.turns with
  | [] => exact .inl ⟨rfl, rfl⟩
  | .intake :: ts =>
    simp only [fetchByte]
    match hp : s.rxPort with
    | [] => exact .inr (.inl ⟨ts, rfl, rfl, rfl⟩)
    | b :: bs => exact .inr (.inr (.inl ⟨ts, b, bs, rfl, rfl, rfl⟩))
  | .host :: ts =>
    simp only [fetchCommand]
    match hp : s.cmdPort with
    | [] => exact .inr (.inr (.inr (.inl ⟨ts, rfl, rfl, rfl⟩)))
    | c :: cs => exact .inr (.inr (.inr (.inr (.inl ⟨ts, c, cs, rfl, rfl, rfl⟩))))
  | .consumer :: ts =>
    simp only [fetchPop]
    match hp : s.popRequests with
    | 0 => exact .inr (.inr (.inr (.inr (.inr (.inl ⟨ts, rfl, rfl, rfl⟩)))))
    | n + 1 => exact .inr (.inr (.inr (.inr (.inr (.inr ⟨ts, n, rfl, rfl, rfl⟩)))))

/-- Every instruction of every state answers a next state (R232). -/
theorem exec_next (i : Instr) (s : State) : ∃ t : State, exec i s = .next t := by
  cases i <;> exact ⟨_, rfl⟩

end Sys2Proof.Machine
end

