-- ==== Sys2Proof/Laws/LinkControl.lean ====
section
/-! SUPPORT. What the link-control handler can do, once: the registers it writes, and what is true of the values. -/

namespace Sys2Proof.Machine

/-- A payload that names CONFIG_RESP begins with its signature (R77). -/
theorem lcMessage_configResp {p rest : List Byte} (h : lcMessage p = .configResp rest) : p = 0x04 :: 0x7B :: rest := by
  match p, h with
  | [], h => simp [lcMessage] at h
  | [_], h => simp [lcMessage] at h
  | a :: b :: r, h =>
    revert h
    simp only [lcMessage]
    repeat' split
    all_goals simp_all

/-- A window that is not 0 stays so when a CONFIG_RESP adopts one (R167). -/
theorem adoptedWindow_ne_zero {w : Seq} (h : w ≠ 0) (rest : List Byte) : adoptedWindow rest w ≠ 0 := by
  unfold adoptedWindow
  split
  · exact h
  · split <;> assumption

/-- The handler writes the protocol registers, the transmit stream and the event stream, and nothing else; the window
stays non-zero; the count stays or is cleared; ACTIVE is reached only by CONFIG_RESP; the init-complete record is
added only with `init_fired`; and `init_fired` is cleared only by a peer reset, which leaves ACTIVE (R160 to R172). -/
theorem linkControl_effect (p : List Byte) (s : State) :
    ∃ (ls : LinkState) (ss : SleepState) (a b c w : Seq) (o : BitVec 2) (f : Bool) (dx : List Byte)
      (de : List EventCode),
      linkControl p s = { s with
        linkState := ls, sleepState := ss, txSeq := a, txAck := b, rxAck := c, txWin := w, oooCount := o,
        initFired := f, txStream := s.txStream ++ dx, events := s.events ++ de } ∧
      (s.txWin ≠ 0 → w ≠ 0) ∧ (o = s.oooCount ∨ o = 0) ∧
      (ls = .active → s.linkState ≠ .active → ∃ rest, p = 0x04 :: 0x7B :: rest) ∧
      (de.count .evInitComplete = 0 ∨
        (s.initFired = false ∧ f = true ∧ ls = .active ∧ de.count .evInitComplete = 1)) ∧
      (s.initFired = true → f = false → ls ≠ .active ∧ s.linkState = .active) := by
  unfold linkControl
  split
  · simp only [syncReq, sendLc_eq, resetIfActive]
    split
    · exact ⟨.uninit, s.sleepState, 0, 0, 0, s.txWin, 0, false, wire 15 false 0 0 syncRespPayload, [], by simp [peerReset],
        id, .inr rfl, nofun, .inl rfl, fun _ _ => ⟨nofun, ‹_›⟩⟩
    · exact ⟨s.linkState, s.sleepState, s.txSeq, s.txAck, s.rxAck, s.txWin, s.oooCount, s.initFired, _, [], by simp; rfl,
        id, .inl rfl, fun h g => absurd h g, .inl rfl, fun h g => absurd (h.symm.trans g) (by decide)⟩
  · simp only [syncResp, sendLc_eq, resetIfActive]
    split
    · exact ⟨.init, s.sleepState, 0, 0, 0, s.txWin, 0, false, wire 15 false 0 0 configReqPayload, [], by simp [peerReset],
        id, .inr rfl, nofun, .inl rfl, fun _ _ => ⟨nofun, ‹_›⟩⟩
    · exact ⟨.init, s.sleepState, s.txSeq, s.txAck, s.rxAck, s.txWin, s.oooCount, s.initFired, _, [], by simp; rfl,
        id, .inl rfl, nofun, .inl rfl, fun h g => absurd (h.symm.trans g) (by decide)⟩
  · simp only [configReq, sendLc_eq]
    exact ⟨s.linkState, s.sleepState, s.txSeq, s.txAck, s.rxAck, s.txWin, s.oooCount, s.initFired, _, [], by simp; rfl,
      id, .inl rfl, fun h g => absurd h g, .inl rfl, fun h g => absurd (h.symm.trans g) (by decide)⟩
  · rename_i rest hm
    have hsig := lcMessage_configResp hm
    simp only [configResp, fireInit]
    split
    · exact ⟨.active, s.sleepState, s.txSeq, s.txAck, s.rxAck, adoptedWindow rest s.txWin, s.oooCount, s.initFired, [], [],
        by simp, fun h => adoptedWindow_ne_zero h rest, .inl rfl, fun _ _ => ⟨rest, hsig⟩, .inl rfl,
        fun h g => absurd (h.symm.trans g) (by decide)⟩
    · rename_i hf
      exact ⟨.active, s.sleepState, s.txSeq, s.txAck, s.rxAck, adoptedWindow rest s.txWin, s.oooCount, true, [],
        [.evInitComplete], by simp [logRecord], fun h => adoptedWindow_ne_zero h rest, .inl rfl,
        fun _ _ => ⟨rest, hsig⟩, .inr ⟨by simpa using hf, rfl, rfl, rfl⟩, nofun⟩
  · exact ⟨s.linkState, .sleeping, s.txSeq, s.txAck, s.rxAck, s.txWin, s.oooCount, s.initFired, [], [],
      by simp [sleepReq], id, .inl rfl, fun h g => absurd h g, .inl rfl, fun h g => absurd (h.symm.trans g) (by decide)⟩
  · exact ⟨s.linkState, .awake, s.txSeq, s.txAck, s.rxAck, s.txWin, s.oooCount, s.initFired, [], [],
      by simp [wokenReq], id, .inl rfl, fun h g => absurd h g, .inl rfl, fun h g => absurd (h.symm.trans g) (by decide)⟩
  · simp only [wakeupReq, sendLc_eq]
    exact ⟨s.linkState, .awake, s.txSeq, s.txAck, s.rxAck, s.txWin, s.oooCount, s.initFired, _, [], by simp; rfl,
      id, .inl rfl, fun h g => absurd h g, .inl rfl, fun h g => absurd (h.symm.trans g) (by decide)⟩
  · exact ⟨s.linkState, s.sleepState, s.txSeq, s.txAck, s.rxAck, s.txWin, s.oooCount, s.initFired, [], [.dUnknownLc],
      by simp [unknownLc, logRecord], id, .inl rfl, fun h g => absurd h g, .inl rfl,
      fun h g => absurd (h.symm.trans g) (by decide)⟩

end Sys2Proof.Machine
end

