-- ==== Sys2Proof/Laws/PerInstr.lean ====
section
/-! SUPPORT. The family EncodeFits: the word the encoder writes for a well-formed instruction is one its format
has. One lemma per instruction. -/

namespace Sys2Proof.Laws.EncodeFits

/-- The word is one its format has: an escape sequence of two bytes (R70), a frame of 4 to 4099 bytes (R10, R71), a
link-control payload that fits a frame (R10, R77). A received byte and a command are of any value (R84, R103). -/
def fits : Encoded → Bool
  | .rxByte _ _ => true
  | .txSequence bs => decide (bs.length = 2)
  | .frame f => decide (4 ≤ f.length) && decide (f.length ≤ Config.maxFrame)
  | .lcPayload p => decide (p.length ≤ Config.maxPayload)
  | .command _ => true

/-- A well-formed instruction's word is one its format has. -/
def Statement (i : Instr) : Prop := i.wf = true → fits (encode i) = true

/-- A frame whose payload fits is a frame that fits. -/
theorem fits_encodeFrame {t : PacketType} {h : FrameHeader} {p : List Byte} (hp : payloadFits p = true) :
    fits (encodeFrame t h p) = true := by
  simp [payloadFits, Config.maxPayload] at hp
  simp [fits, encodeFrame, headerBytes, Config.maxFrame]
  omega

/-- A link-control message whose trailer fits is a payload that fits. -/
theorem fits_lcPayload {a b : Byte} {rest : List Byte} (hr : trailerFits rest = true) :
    fits (.lcPayload (a :: b :: rest)) = true := by
  simp [trailerFits] at hr
  simp [fits]
  omega

theorem rxbEndHunt : Statement .rxbEndHunt := fun _ => rfl
theorem rxbOtherHunt (b : Byte) : Statement (.rxbOtherHunt b) := fun _ => rfl
theorem rxbEsc : Statement .rxbEsc := fun _ => rfl
theorem rxbEscEnd : Statement .rxbEscEnd := fun _ => rfl
theorem rxbEscEsc : Statement .rxbEscEsc := fun _ => rfl
theorem rxbBadEscape (b : Byte) : Statement (.rxbBadEscape b) := fun _ => rfl
theorem rxbEndFrame : Statement .rxbEndFrame := fun _ => rfl
theorem rxbData (b : Byte) : Statement (.rxbData b) := fun _ => rfl
theorem txStuffEnd : Statement .txStuffEnd := fun _ => rfl
theorem txStuffEsc : Statement .txStuffEsc := fun _ => rfl
theorem frameAck (h : FrameHeader) (p : List Byte) : Statement (.frameAck h p) := fits_encodeFrame
theorem frameCommand (h : FrameHeader) (p : List Byte) : Statement (.frameCommand h p) := fits_encodeFrame
theorem frameAcl (h : FrameHeader) (p : List Byte) : Statement (.frameAcl h p) := fits_encodeFrame
theorem frameSco (h : FrameHeader) (p : List Byte) : Statement (.frameSco h p) := fits_encodeFrame
theorem frameEvent (h : FrameHeader) (p : List Byte) : Statement (.frameEvent h p) := fits_encodeFrame
theorem frameIso (h : FrameHeader) (p : List Byte) : Statement (.frameIso h p) := fits_encodeFrame
theorem frameLinkControl (h : FrameHeader) (p : List Byte) : Statement (.frameLinkControl h p) := fits_encodeFrame
theorem frameReserved (t : PacketType) (h : FrameHeader) (p : List Byte) : Statement (.frameReserved t h p) := fun w => fits_encodeFrame (Bool.and_eq_true_iff.mp w).2
theorem lcSyncReq (rest : List Byte) : Statement (.lcSyncReq rest) := fits_lcPayload
theorem lcSyncResp (rest : List Byte) : Statement (.lcSyncResp rest) := fits_lcPayload
theorem lcConfigReq (rest : List Byte) : Statement (.lcConfigReq rest) := fits_lcPayload
theorem lcConfigResp (rest : List Byte) : Statement (.lcConfigResp rest) := fits_lcPayload
theorem lcSleepReq (rest : List Byte) : Statement (.lcSleepReq rest) := fits_lcPayload
theorem lcWokenReq (rest : List Byte) : Statement (.lcWokenReq rest) := fits_lcPayload
theorem lcWakeupReq (rest : List Byte) : Statement (.lcWakeupReq rest) := fits_lcPayload
theorem lcUnknown (p : List Byte) : Statement (.lcUnknown p) := fun w => (Bool.and_eq_true_iff.mp w).2
theorem cmdReset : Statement .cmdReset := fun _ => rfl
theorem cmdStart : Statement .cmdStart := fun _ => rfl
theorem cmdStop : Statement .cmdStop := fun _ => rfl
theorem cmdSend (t : PacketType) (p : List Byte) : Statement (.cmdSend t p) := fun _ => rfl
theorem cmdPop : Statement .cmdPop := fun _ => rfl
theorem reservedOp101 : Statement .reservedOp101 := fun _ => rfl
theorem reservedOp110 : Statement .reservedOp110 := fun _ => rfl
theorem reservedOp111 : Statement .reservedOp111 := fun _ => rfl

end Sys2Proof.Laws.EncodeFits
end

