-- ==== Sys2Proof/Laws/Run.lean ====
section
/-! SUPPORT. Runs of several steps: the intake agent's step, the splitting of a run, and that `runSteps` is the host's
`run` of this core. -/

namespace Sys2Proof.Machine

/-- The intake agent's step on a waiting byte. -/
theorem step_intake {s : State} {b : Byte} {bs : List Byte} {ts : List Agent} (ht : s.turns = .intake :: ts)
    (hp : s.rxPort = b :: bs) :
    step s = exec (decodeRxByte (rxContext s) b) { s with turns := ts, rxPort := bs } := by
  simp [step, fetch, fetchByte, ht, hp, rxContext]

/-- One step of a run. -/
theorem runSteps_succ {s t : State} (k : Nat) (h : step s = .next t) : runSteps (k + 1) s = runSteps k t := by
  simp [runSteps, h]

/-- A run splits where its first part answers a next state. -/
theorem runSteps_append {s t : State} {j : Nat} (k : Nat) (h : runSteps j s = .next t) :
    runSteps (j + k) s = runSteps k t := by
  induction j generalizing s with
  | zero =>
    cases h
    rw [Nat.zero_add]
  | succ j ih =>
    obtain ⟨u, hu⟩ : ∃ u, step s = .next u := by
      rw [runSteps] at h
      cases hs : step s with
      | next u => exact ⟨u, rfl⟩
      | fault f => simp [hs] at h
      | refused r => simp [hs] at h
    rw [runSteps_succ j hu] at h
    rw [Nat.succ_add, runSteps_succ _ hu]
    exact ih h

/-- A run of the host's interface goes on from a next state. -/
theorem run_of_next (M : Host.Core) (k : Nat) (s t : M.State) (h : M.step s = .next t) : M.run (k + 1) s = M.run k t := by
  simp only [Host.Core.run, h]

/-- `runSteps` is the host's `run` of this core. -/
theorem runSteps_eq_run : ∀ (k : Nat) (s : State), runSteps k s = Host.Core.run Sys2Proof.core k s
  | 0, _ => rfl
  | k + 1, s => by
    obtain ⟨t, ht⟩ : ∃ t, step s = .next t := by
      unfold step
      split
      · exact exec_next _ _
      · exact ⟨_, rfl⟩
    rw [runSteps_succ k ht]
    exact (runSteps_eq_run k t).trans (run_of_next Sys2Proof.core k s t ht).symm

end Sys2Proof.Machine
end

