-- ==== Sys2Proof/Tests/Slice0.lean ====
section
/-! SUPPORT. The model's own tests: ill-formed terms that WellFormed refuses, words written out from the spec's
encodings (spec/30_encoding.md R70 to R77, R84), one-step vectors of spec/95_test_vectors.md (named in each theorem's
comment), words of the opcode table, and, for every statement with hypotheses, a state and operands that meet them. -/

namespace Sys2Proof.Tests

open Sys2Proof Sys2Proof.Machine

/-! ### Helpers -/

/-- The start state `RUN` of the vectors. -/
def run : State := { State.reset with running := true }

/-- The start state `INIT`. -/
def ini : State := { run with linkState := .init }

/-- The start state `ACT`. -/
def act : State := { run with linkState := .active, initFired := true }

/-- An EVENT frame with a payload of one byte, as `fifo_n=k` queues them. -/
def eventSlot (b : Byte) : List Byte := [0x00, 0x14, 0x00, 0xEB, b]

/-- Ten queued frames. -/
def fullFifo : List (List Byte) := (List.replicate 10 0xA0).map eventSlot

/-- The outcome is a next state with this property. -/
def answers (o : Host.Outcome State Fault Refusal) (p : State → Bool) : Bool :=
  match o with
  | .next t => p t
  | .fault _ => false
  | .refused _ => false

/-- The state an outcome goes to. -/
def nextOr (o : Host.Outcome State Fault Refusal) (s : State) : State :=
  match o with
  | .next t => t
  | .fault _ => s
  | .refused _ => s

/-- A machine that goes on goes to `nextOr`. -/
theorem step_nextOr (s : State) : step s = .next (nextOr (step s) s) := by
  unfold step
  split
  · rename_i i s' _
    cases i <;> rfl
  · rfl

/-- One received byte. -/
def onByte (b : Byte) (s : State) : Host.Outcome State Fault Refusal :=
  step { s with rxPort := [b], turns := [.intake] }

/-- The frame instruction of these bytes. -/
def onFrame (f : List Byte) (s : State) : Host.Outcome State Fault Refusal :=
  match decode (.frame f) with
  | .instr i => exec i s
  | .reject _ => .next s

/-- The link-control instruction of these bytes. -/
def onLc (p : List Byte) (s : State) : Host.Outcome State Fault Refusal :=
  match decode (.lcPayload p) with
  | .instr i => exec i s
  | .reject _ => .next s

/-- One command. -/
def onCommand (op : BitVec 3) (t : PacketType) (p : List Byte) (s : State) : Host.Outcome State Fault Refusal :=
  step { s with cmdPort := [{ op := op, ptype := t, payload := p }], turns := [.host] }

/-- The parser inside a frame with these bytes collected. -/
def collecting (f : List Byte) (s : State) : State :=
  { s with rxMode := .inFrame, rxBuf := writeBytes [] 0 f, rxLen := BitVec.ofNat 13 f.length }

/-- The same with the closing delimiter at the port and the intake agent's turn. -/
def closing (f : List Byte) (s : State) : State := { collecting f s with rxPort := [0xC0], turns := [.intake] }

/-! ### WellFormed refuses -/

theorem test_wf_end_is_not_other : (Instr.rxbOtherHunt 0xC0).wf = false := by decide
theorem test_wf_good_escapes : (Instr.rxbBadEscape 0xDC).wf = false ∧ (Instr.rxbBadEscape 0xDD).wf = false := by decide
theorem test_wf_end_and_esc_are_no_data : (Instr.rxbData 0xC0).wf = false ∧ (Instr.rxbData 0xDB).wf = false := by decide
theorem test_wf_payload_over_4095 (h : FrameHeader) : (Instr.frameAcl h (List.replicate 4096 0)).wf = false := by
  simp only [Instr.wf, payloadFits, List.length_replicate]; decide
theorem test_wf_named_types_are_not_reserved (h : FrameHeader) :
    (Instr.frameReserved 5 h []).wf = false ∧ (Instr.frameReserved 15 h []).wf = false := ⟨rfl, rfl⟩
theorem test_wf_known_signature_is_not_unknown : (Instr.lcUnknown [0x01, 0x7E]).wf = false := by decide
theorem test_wf_trailer_over_4093 : (Instr.lcSyncReq (List.replicate 4094 0)).wf = false := by
  simp only [Instr.wf, trailerFits, List.length_replicate]; decide

/-! ### Decoding, from the encodings of R70 to R77 and R84 -/

theorem test_decode_rxbEndHunt : decode (.rxByte .hunt 0b11000000) = .instr .rxbEndHunt := by decide
theorem test_decode_rxbOtherHunt : decode (.rxByte .hunt 0b11011011) = .instr (.rxbOtherHunt 0xDB) := by decide
theorem test_decode_rxbEsc : decode (.rxByte (.inFrame false) 0b11011011) = .instr .rxbEsc := by decide
theorem test_decode_rxbEscEnd : decode (.rxByte (.inFrame true) 0b11011100) = .instr .rxbEscEnd := by decide
theorem test_decode_rxbEscEsc : decode (.rxByte (.inFrame true) 0b11011101) = .instr .rxbEscEsc := by decide
theorem test_decode_rxbBadEscape : decode (.rxByte (.inFrame true) 0b11000000) = .instr (.rxbBadEscape 0xC0) := by decide
theorem test_decode_rxbEndFrame : decode (.rxByte (.inFrame false) 0b11000000) = .instr .rxbEndFrame := by decide
theorem test_decode_rxbData : decode (.rxByte (.inFrame false) 0b11011100) = .instr (.rxbData 0xDC) := by decide
theorem test_decode_txStuffEnd : decode (.txSequence [0b11011011, 0b11011100]) = .instr .txStuffEnd := by decide
theorem test_decode_txStuffEsc : decode (.txSequence [0b11011011, 0b11011101]) = .instr .txStuffEsc := by decide
theorem test_decode_tx_other_refused : decode (.txSequence [0xDB, 0xC0]) = .reject .notAnEscapeSequence := by decide
theorem test_decode_frameAck : decode (.frame [0b00101000, 0b00000000, 0, 0xD7]) = .instr (.frameAck
    { reliable := false, crcPresent := false, ack := 5, seq := 0, length := 0, checksum := 0xD7 } []) := by decide
theorem test_decode_frameCommand : decode (.frame [0b10111111, 0b00000001, 0, 0x3F]) = .instr (.frameCommand
    { reliable := true, crcPresent := false, ack := 7, seq := 7, length := 0, checksum := 0x3F } []) := by decide
theorem test_decode_frameAcl : decode (.frame [0b10000000, 0b00110010, 0, 0x4D, 1, 2, 3]) = .instr (.frameAcl
    { reliable := true, crcPresent := false, ack := 0, seq := 0, length := 3, checksum := 0x4D } [1, 2, 3]) := by decide
theorem test_decode_frameSco : decode (.frame [0, 0b11110011, 0b11111111, 0x0D]) = .instr (.frameSco
    { reliable := false, crcPresent := false, ack := 0, seq := 0, length := 4095, checksum := 0x0D } []) := by decide
theorem test_decode_frameEvent : decode (.frame [0b01010000, 0b00010100, 0, 0x9B, 0x55]) = .instr (.frameEvent
    { reliable := false, crcPresent := true, ack := 2, seq := 0, length := 1, checksum := 0x9B } [0x55]) := by decide
theorem test_decode_frameIso : decode (.frame [0, 0b00010101, 0, 0xEA, 2]) = .instr (.frameIso
    { reliable := false, crcPresent := false, ack := 0, seq := 0, length := 1, checksum := 0xEA } [2]) := by decide
theorem test_decode_frameLinkControl : decode (.frame [0b00001000, 0b00101111, 0, 0xC8, 1, 0x7E]) = .instr (.frameLinkControl
    { reliable := false, crcPresent := false, ack := 1, seq := 0, length := 2, checksum := 0xC8 } [1, 0x7E]) := by decide
theorem test_decode_frameReserved : decode (.frame [0b00010000, 0b00010110, 0, 0xD9, 0x99]) = .instr (.frameReserved 6
    { reliable := false, crcPresent := false, ack := 2, seq := 0, length := 1, checksum := 0xD9 } [0x99]) := by decide
theorem test_decode_runt_refused : decode (.frame [0x01, 0x02, 0x03]) = .reject .runtFrame := by decide
theorem test_decode_lcSyncReq : decode (.lcPayload [0b00000001, 0b01111110, 0x55]) = .instr (.lcSyncReq [0x55]) := by decide
theorem test_decode_lcSyncResp : decode (.lcPayload [0b00000010, 0b01111101]) = .instr (.lcSyncResp []) := by decide
theorem test_decode_lcConfigReq : decode (.lcPayload [0b00000011, 0b11111100, 4]) = .instr (.lcConfigReq [4]) := by decide
theorem test_decode_lcConfigResp : decode (.lcPayload [0b00000100, 0b01111011]) = .instr (.lcConfigResp []) := by decide
theorem test_decode_lcSleepReq : decode (.lcPayload [0b00000101, 0b11111010]) = .instr (.lcSleepReq []) := by decide
theorem test_decode_lcWokenReq : decode (.lcPayload [0b00000110, 0b11111001]) = .instr (.lcWokenReq []) := by decide
theorem test_decode_lcWakeupReq : decode (.lcPayload [0b00000111, 0b01111000]) = .instr (.lcWakeupReq []) := by decide
theorem test_decode_lcUnknown : decode (.lcPayload [0x01, 0x7F]) = .instr (.lcUnknown [0x01, 0x7F]) ∧
    decode (.lcPayload [0x01]) = .instr (.lcUnknown [0x01]) ∧ decode (.lcPayload []) = .instr (.lcUnknown []) := by decide
theorem test_decode_cmdReset : decode (.command { op := 0b000, ptype := 0, payload := [] }) = .instr .cmdReset := by decide
theorem test_decode_cmdStart : decode (.command { op := 0b001, ptype := 0, payload := [] }) = .instr .cmdStart := by decide
theorem test_decode_cmdStop : decode (.command { op := 0b010, ptype := 0, payload := [] }) = .instr .cmdStop := by decide
theorem test_decode_cmdSend : decode (.command { op := 0b011, ptype := 4, payload := [9] }) = .instr (.cmdSend 4 [9]) := by decide
theorem test_decode_cmdPop : decode (.command { op := 0b100, ptype := 0, payload := [] }) = .instr .cmdPop := by decide
theorem test_decode_reservedOp101 : decode (.command { op := 0b101, ptype := 3, payload := [] }) = .instr .reservedOp101 := by decide
theorem test_decode_reservedOp110 : decode (.command { op := 0b110, ptype := 0, payload := [] }) = .instr .reservedOp110 := by decide
theorem test_decode_reservedOp111 : decode (.command { op := 0b111, ptype := 0, payload := [] }) = .instr .reservedOp111 := by decide

/-! ### Words of the opcode table -/

theorem test_table_bytes : decodeTableWord 8 0xC0 = some .rxbEndHunt ∧ decodeTableWord 8 0xDB = some .rxbEsc ∧
    decodeTableWord 8 0xDC = some .rxbEscEnd ∧ decodeTableWord 8 0xDD = some .rxbEscEsc ∧
    decodeTableWord 16 0xDBDC = some .txStuffEnd ∧ decodeTableWord 16 0xDBDD = some .txStuffEsc := by decide
theorem test_table_frames : decodeTableWord 32 0x800200FD =
      some (.frameAcl { reliable := true, crcPresent := false, ack := 0, seq := 0, length := 0, checksum := 0xFD } []) ∧
    decodeTableWord 32 0x00140000 =
      some (.frameEvent { reliable := false, crcPresent := false, ack := 0, seq := 0, length := 1, checksum := 0 } [0]) := by decide
theorem test_table_link_control : decodeTableWord 16 0x017E = some (.lcSyncReq []) ∧
    decodeTableWord 24 0x03FC04 = some (.lcConfigReq [4]) ∧ decodeTableWord 16 0x0778 = some (.lcWakeupReq []) := by decide
theorem test_table_byte_runs : answers (step (State.reset.withFetchWord 8 0xC0)) (fun t => t.rxMode == .inFrame) = true := by decide
theorem test_table_escape_runs : answers (step (State.reset.withFetchWord 8 0xDC))
    (fun t => t.rxBuf == [(0, 0xC0)] && t.rxLen == 1) = true := by decide
theorem test_table_stuffing_runs : answers (step (State.reset.withFetchWord 16 0xDBDD))
    (fun t => t.txStream == [0xC0, 0x00, 0x10, 0x00, 0xEF, 0xDB, 0xDD, 0xC0]) = true := by decide
theorem test_table_frame_runs : answers (step (State.reset.withFetchWord 32 0x000400FB))
    (fun t => t.events == [.wNotActive] && t.rxMode == .hunt) = true := by decide
theorem test_table_link_control_runs : answers (step (State.reset.withFetchWord 16 0x017E))
    (fun t => t.txStream == [0xC0, 0x00, 0x2F, 0x00, 0xD0, 0x02, 0x7D, 0xC0]) = true := by decide

/-! ### One-step vectors: the SLIP layer -/

/-- X-1, V-SLIP-1a to V-SLIP-1g. -/
theorem test_encode_byte : encodeByte 0xC0 = [0xDB, 0xDC] ∧ encodeByte 0xDB = [0xDB, 0xDD] ∧ encodeByte 0xDC = [0xDC] ∧
    encodeByte 0xDD = [0xDD] ∧ encodeByte 0x00 = [0x00] ∧ encodeByte 0xFF = [0xFF] := by decide
/-- V-SLIP-3, V-SLIP-4. -/
theorem test_stuff : stuff [0xC0, 0xDB, 0xC0] = [0xDB, 0xDC, 0xDB, 0xDD, 0xDB, 0xDC] ∧
    stuff [0xDB, 0xDC, 0xC0, 0xDD] = [0xDB, 0xDD, 0xDC, 0xDB, 0xDC, 0xDD] := by decide
/-- V-SLIP-6. -/
theorem test_rxbEndHunt : answers (onByte 0xC0 State.reset) (fun t => t.rxMode == .inFrame && t.rxLen == 0) = true := by decide
/-- V-SLIP-5. -/
theorem test_rxbOtherHunt : answers (onByte 0xDB State.reset) (fun t => t.rxMode == .hunt && t.esc == false) = true := by decide
/-- V-SLIP-9. -/
theorem test_rxbEsc : answers (onByte 0xDB (collecting [0x01] State.reset)) (fun t => t.esc && t.rxLen == 1) = true := by decide
/-- V-SLIP-10. -/
theorem test_rxbEscEnd : answers (onByte 0xDC { collecting [0x01] State.reset with esc := true })
    (fun t => collectedFrame t == [0x01, 0xC0] && !t.esc) = true := by decide
/-- V-SLIP-8, its second escape. -/
theorem test_rxbEscEsc : answers (onByte 0xDD { collecting [0x01, 0xC0] State.reset with esc := true })
    (fun t => collectedFrame t == [0x01, 0xC0, 0xDB] && !t.esc) = true := by decide
/-- V-SLIP-11. -/
theorem test_rxbBadEscape : answers (onByte 0x05 { collecting [0x01] State.reset with esc := true })
    (fun t => t.events == [.eBadEscape] && t.rxMode == .hunt && t.rxLen == 0 && !t.esc) = true := by decide
/-- V-SLIP-12. -/
theorem test_rxbBadEscape_delimiter : answers (onByte 0xC0 { collecting [0x01] State.reset with esc := true })
    (fun t => t.events == [.eBadEscape] && t.rxMode == .hunt) = true := by decide
/-- V-SLIP-7. -/
theorem test_rxbEndFrame_empty : answers (onByte 0xC0 (collecting [] State.reset))
    (fun t => t.rxMode == .inFrame && t.events == []) = true := by decide
/-- V-SLIP-20. -/
theorem test_rxbEndFrame_runt : answers (onByte 0xC0 (collecting [0x01, 0x02, 0x03] State.reset))
    (fun t => t.rxMode == .hunt && t.events == [.eRunt]) = true := by decide
/-- V-SLIP-15, an unescaped DC. -/
theorem test_rxbData : answers (onByte 0xDC (collecting [0x01] State.reset)) (fun t => collectedFrame t == [0x01, 0xDC]) = true := by decide
/-- V-SLIP-17, the 4100th byte. -/
theorem test_rxbData_oversize : answers (onByte 0x00 { collecting [] State.reset with rxLen := 4099 })
    (fun t => t.rxMode == .hunt && t.rxLen == 0 && t.events == [.eOversize]) = true := by decide
/-- X-1. -/
theorem test_txStuffEnd : answers (exec .txStuffEnd State.reset) (fun t => t.txStream == [0xDB, 0xDC]) = true := by decide
/-- X-1. -/
theorem test_txStuffEsc : answers (exec .txStuffEsc State.reset) (fun t => t.txStream == [0xDB, 0xDD]) = true := by decide

/-! ### One-step vectors: the header -/

/-- X-2. -/
theorem test_checksums : cks 0x00 0x2F 0x00 = 0xD0 ∧ cks 0x00 0x3F 0x00 = 0xC0 ∧ cks 0x80 0x32 0x00 = 0x4D ∧
    cks 0x08 0x00 0x00 = 0xF7 ∧ cks 0x00 0x00 0x00 = 0xFF ∧ cks 0xFF 0xFF 0xFF = 0x02 := by decide
/-- V-HDR-1 to V-HDR-5. -/
theorem test_headers : encodeHeader 2 true 0 0 3 = [0x80, 0x32, 0x00, 0x4D] ∧ encodeHeader 15 false 0 0 2 = [0x00, 0x2F, 0x00, 0xD0] ∧
    encodeHeader 1 true 7 7 0 = [0xBF, 0x01, 0x00, 0x3F] ∧ encodeHeader 4 false 0 0 4095 = [0x00, 0xF4, 0xFF, 0x0C] ∧
    encodeHeader 0 false 0 5 0 = [0x28, 0x00, 0x00, 0xD7] := by decide

/-! ### One-step vectors: the frames -/

/-- V-REL-15. -/
theorem test_frameAck_reliable : answers (onFrame [0x82, 0x00, 0x00, 0x7D] { act with txAck := 2 })
    (fun t => t.txAck == 3 && t.txStream == [0xC0, 0x18, 0x00, 0x00, 0xE7, 0xC0]) = true := by decide
/-- V-REL-19. -/
theorem test_frameAck_gated : answers (onFrame [0x18, 0x00, 0x00, 0xE7] run)
    (fun t => t.rxAck == 0 && t.events == [.wNotActive]) = true := by decide
/-- V-REL-13. -/
theorem test_frameCommand : answers (onFrame [0x80, 0x31, 0x00, 0x4E, 0x03, 0x0C, 0x00] act)
    (fun t => t.txAck == 1 && t.txStream == [0xC0, 0x08, 0x00, 0x00, 0xF7, 0xC0] && t.fifo == []) = true := by decide
/-- V-REL-1, X-5. -/
theorem test_frameAcl : answers (onFrame [0x80, 0x32, 0x00, 0x4D, 0x01, 0x02, 0x03] act)
    (fun t => t.txAck == 1 && t.txStream == [0xC0, 0x08, 0x00, 0x00, 0xF7, 0xC0] &&
      t.fifo == [[0x80, 0x32, 0x00, 0x4D, 0x01, 0x02, 0x03]]) = true := by decide
/-- V-REL-4. -/
theorem test_frameAcl_resync : answers (onFrame [0x83, 0x12, 0x00, 0x6A, 0x09] { act with txAck := 1, oooCount := 2 })
    (fun t => t.oooCount == 0 && t.events == [.wOutOfOrder, .iResync] &&
      t.txStream == [0xC0, 0x08, 0x2F, 0x00, 0xC8, 0x01, 0x7E, 0xC0, 0xC0, 0x08, 0x00, 0x00, 0xF7, 0xC0]) = true := by decide
/-- V-FIFO-7, its first step. -/
theorem test_frameSco : answers (onFrame [0x00, 0x03, 0x00, 0xFC] act)
    (fun t => t.fifo == [[0x00, 0x03, 0x00, 0xFC]] && t.txStream == []) = true := by decide
/-- P5 row 11. -/
theorem test_frameSco_full : answers (onFrame [0x00, 0x13, 0x00, 0xEC, 0x0A] { act with fifo := fullFifo })
    (fun t => t.fifo == fullFifo && t.events == [.eFifoFull]) = true := by decide
/-- V-HDR-11. -/
theorem test_frameEvent : answers (onFrame [0x50, 0x14, 0x00, 0x9B, 0x55] act)
    (fun t => t.rxAck == 2 && t.fifo == [[0x50, 0x14, 0x00, 0x9B, 0x55]]) = true := by decide
/-- V-FIFO-2, its second frame. -/
theorem test_frameIso : answers (onFrame [0x00, 0x15, 0x00, 0xEA, 0x02] { act with fifo := [eventSlot 0x01] })
    (fun t => t.fifo == [eventSlot 0x01, [0x00, 0x15, 0x00, 0xEA, 0x02]]) = true := by decide
/-- V-HDR-9, a corrupted byte 1, which makes it an SCO frame. -/
theorem test_frame_checksum : answers (onFrame [0x80, 0x33, 0x00, 0x4D, 0x01, 0x02, 0x03] act)
    (fun t => t.events == [.wChecksum] && t.txAck == 0 && t.txStream == []) = true := by decide
/-- V-REL-16. -/
theorem test_frameLinkControl : answers (onFrame [0x83, 0x2F, 0x00, 0x4D, 0x01, 0x7E] { act with txAck := 3, txSeq := 5 })
    (fun t => t.linkState == .uninit && t.txSeq == 0 && t.txAck == 0 &&
      t.txStream == [0xC0, 0x00, 0x2F, 0x00, 0xD0, 0x02, 0x7D, 0xC0, 0xC0, 0x00, 0x00, 0x00, 0xFF, 0xC0]) = true := by decide
/-- V-LC-21. -/
theorem test_frameLinkControl_empty : answers (onFrame [0x00, 0x0F, 0x00, 0xF0] act) (fun t => t.events == [.dUnknownLc]) = true := by decide
/-- V-REL-14. -/
theorem test_frameReserved : answers (onFrame [0x10, 0x16, 0x00, 0xD9, 0x99] act)
    (fun t => t.rxAck == 2 && t.events == [] && t.fifo == []) = true := by decide

/-! ### One-step vectors: link control -/

/-- X-3, V-LC-8: CONFIG_REQ as sent by a block whose window is 4. -/
theorem test_config_req_wire : wire 15 false 0 0 [0x03, 0xFC, windowByte 4] = [0xC0, 0x00, 0x3F, 0x00, 0xDB, 0xDC, 0x03, 0xFC, 0x04, 0xC0] ∧
    wire 15 false 0 1 [0x03, 0xFC, windowByte 4] = [0xC0, 0x08, 0x3F, 0x00, 0xB8, 0x03, 0xFC, 0x04, 0xC0] := by decide
/-- V-LC-3. -/
theorem test_lcSyncReq_active : answers (onLc [0x01, 0x7E] { act with txSeq := 5, txAck := 2, oooCount := 1, txWin := 3, sleepState := .sleeping })
    (fun t => t.linkState == .uninit && t.txSeq == 0 && t.txAck == 0 && t.oooCount == 0 && !t.initFired && t.txWin == 3 &&
      t.sleepState == .sleeping && t.txStream == [0xC0, 0x00, 0x2F, 0x00, 0xD0, 0x02, 0x7D, 0xC0]) = true := by decide
/-- V-LC-2. -/
theorem test_lcSyncReq_init : answers (onLc [0x01, 0x7E] ini)
    (fun t => t.linkState == .init && t.txStream == [0xC0, 0x00, 0x2F, 0x00, 0xD0, 0x02, 0x7D, 0xC0]) = true := by decide
/-- V-LC-6, the registers. -/
theorem test_lcSyncResp : answers (onLc [0x02, 0x7D] { act with txAck := 1, txSeq := 2 })
    (fun t => t.linkState == .init && t.txSeq == 0 && t.txAck == 0 && !t.initFired) = true := by decide
/-- V-LC-7, the registers. -/
theorem test_lcConfigReq : answers (onLc [0x03, 0xFC, 0x04] run) (fun t => t.linkState == .uninit && t.txWin == 1) = true := by decide
/-- V-LC-12. -/
theorem test_lcConfigResp : answers (onLc [0x04, 0x7B, 0xFD] ini)
    (fun t => t.linkState == .active && t.txWin == 5 && t.initFired && t.events == [.evInitComplete]) = true := by decide
/-- V-LC-11, V-LC-13. -/
theorem test_lcConfigResp_again : answers (onLc [0x04, 0x7B, 0x08] act) (fun t => t.txWin == 1 && t.events == []) = true := by decide
/-- V-LC-15. -/
theorem test_lcSleepReq : answers (onLc [0x05, 0xFA] act) (fun t => t.sleepState == .sleeping && t.txStream == []) = true := by decide
/-- V-LC-16. -/
theorem test_lcWokenReq : answers (onLc [0x06, 0xF9] { act with sleepState := .sleeping })
    (fun t => t.sleepState == .awake && t.txStream == []) = true := by decide
/-- V-LC-17. -/
theorem test_lcWakeupReq : answers (onLc [0x07, 0x78] { act with sleepState := .sleeping })
    (fun t => t.sleepState == .awake && t.txStream == [0xC0, 0x00, 0x2F, 0x00, 0xD0, 0x06, 0xF9, 0xC0]) = true := by decide
/-- V-LC-19. -/
theorem test_lcUnknown : answers (onLc [0x01, 0x7F] act) (fun t => t.events == [.dUnknownLc]) = true := by decide

/-! ### One-step vectors: the commands -/

/-- V-CMD-1. -/
theorem test_reset : answers (onCommand 0 0 [] { collecting [0x01, 0x02] act with txSeq := 3, txAck := 5, fifo := [eventSlot 0xA0], sleepState := .sleeping, oblEarlySend := true })
    (fun t => t.linkState == .uninit && t.sleepState == .awake && t.txSeq == 0 && t.txAck == 0 && !t.running &&
      t.rxMode == .hunt && t.rxLen == 0 && t.fifo == [] && t.oblEarlySend) = true := by decide
/-- V-CMD-3. -/
theorem test_start : answers (onCommand 1 0 [] { collecting [0x01] act with esc := true, txSeq := 3, txWin := 3, fifo := [eventSlot 0xA0] })
    (fun t => t.linkState == .uninit && t.txSeq == 0 && t.txWin == 1 && !t.esc && t.rxMode == .hunt &&
      t.fifo == [eventSlot 0xA0] && t.txStream == [0xC0, 0x00, 0x2F, 0x00, 0xD0, 0x01, 0x7E, 0xC0]) = true := by decide
/-- V-CMD-4. -/
theorem test_stop : answers (onCommand 2 0 [] act) (fun t => !t.running && t.linkState == .active) = true := by decide
/-- V-CMD-6. -/
theorem test_send_reliable : answers (onCommand 3 2 [0x10] { act with txSeq := 7, txAck := 2 })
    (fun t => t.txSeq == 0 && t.txStream == [0xC0, 0x97, 0x12, 0x00, 0x56, 0x10, 0xC0]) = true := by decide
/-- V-CMD-8. -/
theorem test_send_unreliable : answers (onCommand 3 4 [0xC0, 0xDB] { act with txSeq := 4, txAck := 1 })
    (fun t => t.txSeq == 4 && t.txStream == [0xC0, 0x08, 0x24, 0x00, 0xD3, 0xDB, 0xDC, 0xDB, 0xDD, 0xC0]) = true := by decide
/-- V-FIFO-6, its last step. -/
theorem test_pop : answers (exec .cmdPop { run with fifo := [eventSlot 0xA0, eventSlot 0xA1] })
    (fun t => t.deliveries == [{ packetType := 4, payload := [0xA0] }] && t.fifo == [eventSlot 0xA1]) = true := by decide
/-- V-FIFO-5: the consumer's POP is held. -/
theorem test_pop_held : answers (step { act with running := false, fifo := [eventSlot 0xA0], popRequests := 1, turns := [.consumer] })
    (fun t => t.popRequests == 1 && t.deliveries == [] && t.fifo == [eventSlot 0xA0]) = true := by decide
/-- V-CMD-13, and its like for ops 6 and 7. -/
theorem test_reserved_ops : answers (onCommand 5 0 [] act) (fun t => t.refused && t.txStream == []) = true ∧
    answers (onCommand 6 0 [] act) (fun t => t.refused) = true ∧ answers (onCommand 7 0 [] act) (fun t => t.refused) = true := by decide

/-! ### Hypotheses that can be met -/

/-- A reliable ACL frame with `seq` 0 and no payload; its checksum verifies. -/
def aclHeader : FrameHeader := { reliable := true, crcPresent := false, ack := 0, seq := 0, length := 0, checksum := 0x7D }
/-- The same with another `seq`. -/
def aclSeq (q : Seq) : FrameHeader :=
  { aclHeader with seq := q, checksum := cks (headerByte0 { aclHeader with seq := q }) 0x02 0 }
/-- An unreliable header of a type with an empty payload. -/
def plainHeader (t : PacketType) : FrameHeader := builtHeader t false 0 3 0
/-- A reliable header of a type with `seq` 0 and an empty payload. -/
def reliableHeader (t : PacketType) : FrameHeader := builtHeader t true 0 3 0

theorem witness_DecodeOfEncodeIsIdentity : (Instr.frameReserved 14 (plainHeader 14) [0xC0]).wf = true ∧ (Instr.rxbData 0xDC).wf = true := by decide
theorem witness_EncodeOfDecodeIsIdentity : (∀ c : Command, Encoded.lcPayload [0x01] ≠ .command c) ∧
    decode (.lcPayload [0x01]) = .instr (.lcUnknown [0x01]) := ⟨fun _ => nofun, by decide⟩
theorem witness_EncodeByteEscapesTheTwoReservedValues : (0xDC : Byte) ≠ 0xC0 ∧ (0xDC : Byte) ≠ 0xDB := by decide
theorem witness_StuffedBytesHoldNoDelimiter : (stuff [0xC0, 0xDB])[0]? = some 0xDB ∧ (stuff [0xC0, 0xDB])[2]? = some 0xDB := by decide
theorem witness_BuiltHeaderParsesBack : ([] : List Byte).length = (0 : Length).toNat ∧
    ([1, 2, 3] : List Byte).length = (3 : Length).toNat := by decide
theorem witness_SingleByteCorruptionIsCaught : cks 0x80 0x32 0x00 = 0x4D ∧ (0x81 : Byte) ≠ 0x80 ∧ (0x33 : Byte) ≠ 0x32 ∧
    (0x01 : Byte) ≠ 0x00 ∧ (0x4E : Byte) ≠ 0x4D := by decide
theorem witness_EscapedByteIsResolved : ({ State.reset with rxLen := 4098 } : State).rxLen ≠ 4099 ∧
    ({ State.reset with rxLen := 4099 } : State).rxLen = 4099 := by decide
theorem witness_DataByteIsCollectedOrOverflows : State.reset.rxLen ≠ 4099 ∧ ({ State.reset with rxLen := 4098 } : State).rxLen ≠ 4099 ∧
    ({ State.reset with rxLen := 4099 } : State).rxLen = 4099 := by decide
theorem witness_CollectedByteIsReadBack : Memory.wf (collecting [0x01, 0x00, 0x02] State.reset).rxBuf = true ∧
    (collecting [0x01, 0x00, 0x02] State.reset).rxLen.toNat < 4099 ∧
    Memory.wf ({ State.reset with rxLen := 4098 } : State).rxBuf = true ∧ ({ State.reset with rxLen := 4098 } : State).rxLen.toNat < 4099 ∧
    (4097 : Nat) ≠ 4098 := by decide
theorem witness_ClosingDelimiterRunsTheFrame : (collecting [] act).rxLen = 0 ∧
    (0 < (collecting [1] act).rxLen.toNat ∧ (collecting [1] act).rxLen.toNat < 4) ∧
    (0 < (collecting [1, 2, 3] act).rxLen.toNat ∧ (collecting [1, 2, 3] act).rxLen.toNat < 4) ∧
    4 ≤ (collecting (eventSlot 7) act).rxLen.toNat ∧ 4 ≤ ({ act with rxLen := 4099 } : State).rxLen.toNat := by decide
theorem witness_SlipLayerWritesOnlyTheParser :
    Instr.rxbEsc ∈ [Instr.rxbEndHunt, .rxbEsc, .rxbEscEnd, .rxbEscEsc] ∧ exec .rxbEsc act = .next { act with esc := true } ∧
    (∃ b : Byte, Instr.rxbOtherHunt 7 = .rxbOtherHunt b ∨ Instr.rxbOtherHunt 7 = .rxbBadEscape b ∨ Instr.rxbOtherHunt 7 = .rxbData b) ∧
    exec (.rxbOtherHunt 7) act = .next act := ⟨by decide, rfl, ⟨7, .inl rfl⟩, rfl⟩
theorem witness_StuffedFrameIsProcessedOnce : 1 ≤ (eventSlot 0xC0).length ∧ (eventSlot 0xC0).length ≤ 4099 ∧ act.rxMode = .hunt ∧
    Memory.wf act.rxBuf = true ∧
    ({ act with rxPort := wireFrame (eventSlot 0xC0) ++ [0x55] } : State).rxPort = wireFrame (eventSlot 0xC0) ++ [0x55] ∧
    ({ act with turns := List.replicate (wireFrame (eventSlot 0xC0)).length .intake ++ [.host] } : State).turns =
      List.replicate (wireFrame (eventSlot 0xC0)).length .intake ++ [.host] := by decide
theorem witness_BadChecksumDropsFrame : cks (headerByte0 { aclHeader with checksum := 0 }) (headerByte1 2 { aclHeader with checksum := 0 })
    (headerByte2 { aclHeader with checksum := 0 }) ≠ ({ aclHeader with checksum := 0 } : FrameHeader).checksum := by decide
theorem witness_LengthDisagreementFollowsThePolicy : ((4, Instr.frameEvent) : PacketType × (FrameHeader → List Byte → Instr)) ∈ payloadFrames ∧
    cks (headerByte0 (plainHeader 4)) (headerByte1 4 (plainHeader 4)) (headerByte2 (plainHeader 4)) = (plainHeader 4).checksum ∧
    ([9] : List Byte).length ≠ (plainHeader 4).length.toNat ∧
    cks (headerByte0 aclHeader) (headerByte1 2 aclHeader) (headerByte2 aclHeader) = aclHeader.checksum ∧
    ([9] : List Byte).length ≠ aclHeader.length.toNat ∧ ini.linkState ≠ .active ∧ act.linkState = .active ∧ (plainHeader 4).reliable = false ∧
    act.ackOwed = false ∧ act.fifo.length < 10 := ⟨by simp [payloadFrames], by decide⟩
theorem witness_ActiveGateDropsFrame : cks (headerByte0 (plainHeader 4)) (headerByte1 4 (plainHeader 4)) (headerByte2 (plainHeader 4)) = (plainHeader 4).checksum ∧
    (([] : List Byte).length = (plainHeader 4).length.toNat ∨ Config.rxLengthPolicy = .ignore) ∧ ini.linkState ≠ .active ∧
    (4 : PacketType) ≠ 15 := ⟨by decide, .inl (by decide), by decide, by decide⟩
theorem witness_InOrderPayloadIsQueuedAndAcknowledged : ((2, Instr.frameAcl) : PacketType × (FrameHeader → List Byte → Instr)) ∈ payloadFrames ∧
    Admitted 2 aclHeader [] act ∧ aclHeader.reliable = true ∧ aclHeader.seq = act.txAck ∧ act.fifo.length < 10 :=
  ⟨by simp [payloadFrames], ⟨by decide, .inl (by decide), .inl (by decide)⟩, by decide⟩
theorem witness_FullFifoDropsAnAcknowledgedFrame : ((2, Instr.frameAcl) : PacketType × (FrameHeader → List Byte → Instr)) ∈ payloadFrames ∧
    Admitted 2 aclHeader [] { act with fifo := fullFifo } ∧ aclHeader.reliable = true ∧ aclHeader.seq = act.txAck ∧
    ({ act with fifo := fullFifo } : State).fifo.length = 10 :=
  ⟨by simp [payloadFrames], ⟨by decide, .inl (by decide), .inl (by decide)⟩, by decide⟩
theorem witness_UnreliablePayloadIsQueued : ((5, Instr.frameIso) : PacketType × (FrameHeader → List Byte → Instr)) ∈ payloadFrames ∧
    Admitted 5 (plainHeader 5) [] { act with fifo := fullFifo.drop 1 } ∧ Admitted 5 (plainHeader 5) [] { act with fifo := fullFifo } ∧ (plainHeader 5).reliable = false ∧
    act.ackOwed = false ∧ ({ act with fifo := fullFifo.drop 1 } : State).fifo.length < 10 ∧
    ({ act with fifo := fullFifo } : State).fifo.length = 10 :=
  ⟨by simp [payloadFrames], ⟨by decide, .inl (by decide), .inl (by decide)⟩, ⟨by decide, .inl (by decide), .inl (by decide)⟩, by decide⟩
theorem witness_SilentFrameIsSequencedOnly : (SilentFrame 0 .frameAck ∧ Admitted 0 (reliableHeader 0) [] act ∧
      (reliableHeader 0).reliable = true ∧ (reliableHeader 0).seq = act.txAck) ∧
    (SilentFrame 1 .frameCommand ∧ Admitted 1 (plainHeader 1) [] act ∧ (plainHeader 1).reliable = false ∧ act.ackOwed = false) ∧
    (SilentFrame 14 (.frameReserved 14) ∧ Admitted 14 (reliableHeader 14) [] act) :=
  ⟨⟨.inl ⟨rfl, rfl⟩, ⟨by decide, .inl (by decide), .inl (by decide)⟩, by decide⟩,
    ⟨.inr (.inl ⟨rfl, rfl⟩), ⟨by decide, .inl (by decide), .inl (by decide)⟩, by decide⟩,
    .inr (.inr ⟨by decide, rfl⟩), ⟨by decide, .inl (by decide), .inl (by decide)⟩⟩
theorem witness_OutOfOrderFrameIsDroppedAndAcknowledged : Admitted 2 (aclSeq 5) [] { act with oooCount := 1 } ∧
    (aclSeq 5).reliable = true ∧ (aclSeq 5).seq ≠ act.txAck ∧ ({ act with oooCount := 1 } : State).oooCount.toNat + 1 < 3 ∧
    Admitted 2 (aclSeq 5) [] { act with oooCount := 2 } ∧ 3 ≤ ({ act with oooCount := 2 } : State).oooCount.toNat + 1 :=
  ⟨⟨by decide, .inl (by decide), .inl (by decide)⟩, by decide, by decide, by decide,
    ⟨by decide, .inl (by decide), .inl (by decide)⟩, by decide⟩
theorem witness_LinkControlFrameRunsItsMessage : Admitted 15 (plainHeader 15) [] run ∧ (plainHeader 15).reliable = false ∧ run.ackOwed = false ∧
    Admitted 15 (reliableHeader 15) [] run ∧ (reliableHeader 15).reliable = true ∧ (reliableHeader 15).seq = run.txAck :=
  ⟨⟨by decide, .inl (by decide), .inr (by decide)⟩, by decide, by decide, ⟨by decide, .inl (by decide), .inr (by decide)⟩, by decide⟩
theorem witness_CrcPresentIsZeroAndIgnored : cks (headerByte0 aclHeader) (headerByte1 2 aclHeader) (headerByte2 aclHeader) = aclHeader.checksum ∧
    cks (headerByte0 { aclHeader with crcPresent := true, checksum := 0x3D }) (headerByte1 2 { aclHeader with crcPresent := true, checksum := 0x3D })
      (headerByte2 { aclHeader with crcPresent := true, checksum := 0x3D }) = 0x3D ∧
    ({ aclHeader with crcPresent := true, checksum := 0x3D } : FrameHeader) = { aclHeader with crcPresent := !aclHeader.crcPresent, checksum := 0x3D } ∧
    ∃ u : State, exec (frameInstr (packetClass 2) aclHeader []) act = .next u := ⟨by decide, by decide, by decide, _, rfl⟩
theorem witness_SkipAndDuplicateAreBothCounted : Admitted 2 (aclSeq 0) [] act ∧ Admitted 2 (aclSeq 2) [] act ∧
    Admitted 2 (aclSeq 0) [] { act with fifo := fullFifo } ∧ (2 : PacketType) ≠ 15 ∧
    (aclSeq 0).reliable = true ∧ (aclSeq 2).reliable = true ∧ (aclSeq 0).seq = act.txAck ∧ (aclSeq 2).seq = act.txAck + 2 ∧ act.oooCount = 0 :=
  ⟨⟨by decide, .inl (by decide), .inl (by decide)⟩, ⟨by decide, .inl (by decide), .inl (by decide)⟩,
    ⟨by decide, .inl (by decide), .inl (by decide)⟩, by decide⟩
theorem witness_ThirdOutOfOrderFrameResyncs : Admitted 2 (aclSeq 1) [] act ∧ Admitted 2 (aclSeq 7) [] act ∧
    (aclSeq 1).reliable = true ∧ (aclSeq 7).reliable = true ∧ (aclSeq 1).seq ≠ act.txAck ∧ (aclSeq 7).seq ≠ act.txAck ∧ act.oooCount = 0 :=
  ⟨⟨by decide, .inl (by decide), .inl (by decide)⟩, ⟨by decide, .inl (by decide), .inl (by decide)⟩, by decide⟩
theorem witness_FrameAddsTheListedRecords : ∃ u : State, exec (frameInstr (packetClass 6) (plainHeader 6) [1, 2]) act = .next u := ⟨_, rfl⟩
theorem witness_SyncReqIsAnsweredAndResetsActive : run.linkState ≠ .active ∧ ini.linkState ≠ .active ∧ act.linkState = .active := by decide
theorem witness_SyncRespGivesInit : run.linkState ≠ .active ∧ act.linkState = .active := by decide
theorem witness_ConfigRespActivatesAndNotifiesOnce : (5 : Seq) = (match ([0xFD] : List Byte) with
      | [] => ini.txWin
      | b :: _ => if b.extractLsb' 0 3 = 0 then ini.txWin else b.extractLsb' 0 3) ∧
    act.initFired = true ∧ ini.initFired = false := by decide
theorem witness_UnknownLinkControlOnlyLogs : ([0x01] : List Byte).length < 2 ∧ isKnownSignature [0x01, 0x7F] = false := by decide
theorem witness_SendTransmitsOneFrame : (true = (run.oblEarlySend || (decide ((2 : PacketType) ≠ 0) && decide ((2 : PacketType) ≠ 15) && !run.initFired))) ∧
    (false = (act.oblEarlySend || (decide ((4 : PacketType) ≠ 0) && decide ((4 : PacketType) ≠ 15) && !act.initFired))) ∧
    4095 < (List.replicate 4096 (0 : Byte)).length ∧ (List.replicate 4095 (0 : Byte)).length ≤ 4095 ∧
    ((2 : PacketType) = 1 ∨ (2 : PacketType) = 2) ∧ (4 : PacketType) ≠ 1 ∧ (4 : PacketType) ≠ 2 := by
  simp only [List.length_replicate]; decide
theorem witness_PopDeliversTheHeadOrIsHeld : ({ run with fifo := [eventSlot 1] } : State).running = true ∧
    ({ run with fifo := [eventSlot 1] } : State).fifo = eventSlot 1 :: [] ∧ State.reset.running = false ∧ run.fifo = [] := by decide
theorem witness_ReservedOpsOnlySetTheMark : Instr.reservedOp110 ∈ [Instr.reservedOp101, .reservedOp110, .reservedOp111] := by decide
theorem witness_PushesFillTheFifoThenDrop : ({ act with fifo := fullFifo } : State).fifo.length ≤ 10 := by decide
theorem witness_StepRunsTheDecodedInstruction :
    (closing (eventSlot 7) act).turns = .intake :: [] ∧ (closing (eventSlot 7) act).rxPort = 0xC0 :: [] ∧
    decode (.rxByte (match (closing (eventSlot 7) act).rxMode with | .hunt => .hunt | .inFrame => .inFrame (closing (eventSlot 7) act).esc) 0xC0) =
      .instr .rxbEndFrame ∧
    decode (.command { op := 3, ptype := 2, payload := [1] }) = .instr (.cmdSend 2 [1]) ∧
    ({ act with cmdPort := [{ op := 3, ptype := 2, payload := [1] }], turns := [.host] } : State).turns = .host :: [] ∧
    ({ act with cmdPort := [{ op := 3, ptype := 2, payload := [1] }], turns := [.host] } : State).cmdPort =
      { op := 3, ptype := 2, payload := [1] } :: [] ∧
    ({ act with popRequests := 1, turns := [.consumer] } : State).turns = .consumer :: [] ∧
    ({ act with popRequests := 1, turns := [.consumer] } : State).popRequests = 0 + 1 := by decide
theorem witness_NothingHappensWithoutAStimulus : act.turns = [] ∧ act.rxPort = [] ∧ act.cmdPort = [] ∧ act.popRequests = 0 ∧
    ({ act with turns := [.intake] } : State).turns = .intake :: [] ∧ ({ act with turns := [.host] } : State).turns = .host :: [] ∧
    ({ act with turns := [.consumer] } : State).turns = .consumer :: [] := by decide
theorem witness_EveryStepKeepsTheInvariants : State.Inv (closing (eventSlot 7) { act with fifo := fullFifo }) ∧
    ∃ t : State, step (closing (eventSlot 7) { act with fifo := fullFifo }) = .next t :=
  ⟨⟨by decide, by decide, rfl, nofun, by decide, by decide, by decide, by decide⟩, _, step_nextOr _⟩
theorem witness_NoStepClearsAMark : (∃ t : State, step act = .next t) ∧
    ({ act with faultSendLength := true, oblEarlySend := true, refused := true } : State).marksClear = false := ⟨⟨_, step_nextOr _⟩, by decide⟩
theorem witness_StreamsAreAppendOnlyAndNeverRead : ∃ t : State, step (closing (eventSlot 7) act) = .next t := ⟨_, step_nextOr _⟩
theorem witness_SleepStateGatesNothing : ∃ t : State, step (closing (eventSlot 7) { act with sleepState := .sleeping }) = .next t := ⟨_, step_nextOr _⟩
theorem witness_WindowAndRecordedAckDriveNothing : ∃ t : State, step (closing (eventSlot 7) { act with txWin := 3 }) = .next t := ⟨_, step_nextOr _⟩
theorem witness_IntakeIgnoresRunning : (closing (eventSlot 7) act).turns = .intake :: [] ∧ ∃ t : State, step (closing (eventSlot 7) act) = .next t :=
  ⟨rfl, _, step_nextOr _⟩
theorem witness_ConsumerAndProtocolAreSeparate : ({ act with popRequests := 1, turns := [.consumer] } : State).turns = .consumer :: [] ∧
    ∃ t : State, step { act with popRequests := 1, turns := [.consumer] } = .next t := ⟨rfl, _, step_nextOr _⟩
theorem witness_FramesAreQueuedOnlyWhileActive : ∃ t : State, step (closing (eventSlot 7) act) = .next t ∧
    (closing (eventSlot 7) act).fifo.length < t.fifo.length := ⟨_, step_nextOr _, by decide⟩
theorem witness_OnlyConfigRespActivates : ∃ t : State, step (closing [0x00, 0x2F, 0x00, 0xD0, 0x04, 0x7B] ini) = .next t ∧
    (closing [0x00, 0x2F, 0x00, 0xD0, 0x04, 0x7B] ini).linkState ≠ .active ∧ t.linkState = .active :=
  ⟨_, step_nextOr _, by decide, by decide⟩
theorem witness_InitCompleteFiresOncePerHandshake : (∃ t : State, step (closing [0x00, 0x2F, 0x00, 0xD0, 0x04, 0x7B] ini) = .next t ∧
      t.events.count .evInitComplete = ini.events.count .evInitComplete + 1) ∧
    ∃ t : State, step (closing [0x00, 0x2F, 0x00, 0xD0, 0x01, 0x7E] act) = .next t ∧ act.initFired = true ∧ t.initFired = false :=
  ⟨⟨_, step_nextOr _, by decide⟩, _, step_nextOr _, by decide, by decide⟩
end Sys2Proof.Tests
end

section
/-! PROOFS. The step of each agent with a stimulus at its port (R14, R60), beside `step_intake` of the laws. -/

namespace Sys2Proof.Machine

variable {s : State} {ts : List Agent}

/-- The host agent's step on a waiting command. -/
theorem step_host {c : Command} {cs : List Command} (ht : s.turns = .host :: ts) (hp : s.cmdPort = c :: cs) :
    step s = exec (decodeCommand c) { s with turns := ts, cmdPort := cs } := by
  simp [step, fetch, fetchCommand, ht, hp]

/-- The consumer agent's step on an outstanding POP. -/
theorem step_consumer {n : Nat} (ht : s.turns = .consumer :: ts) (hp : s.popRequests = n + 1) :
    step s = exec .cmdPop { s with turns := ts, popRequests := n } := by
  simp [step, fetch, fetchPop, ht, hp]

/-- A received byte is never rejected: what it decodes to is its row in the parser context. -/
theorem decode_rxByte_eq_instr_iff {ctx : RxContext} {b : Byte} {i : Instr} :
    decode (.rxByte ctx b) = .instr i ↔ decodeRxByte ctx b = i := by
  simp only [decode, Decoded.instr.injEq]

/-- A command is never rejected: what it decodes to is the row of its op. -/
theorem decode_command_eq_instr_iff {c : Command} {i : Instr} :
    decode (.command c) = .instr i ↔ decodeCommand c = i := by
  simp only [decode, Decoded.instr.injEq]

end Sys2Proof.Machine

namespace Sys2Proof.Proofs

open Sys2Proof.Machine

/-- Settles O47: one step equation per agent, with the decoder's own answer named in it. -/
theorem stepRunsTheDecodedInstruction : Obligations.StepRunsTheDecodedInstruction := by
  intro s ts
  refine ⟨fun b bs i ht hp hi => ?intake, fun c cs i ht hp hi => ?host, fun n ht hp => ?consumer⟩
  case intake =>
    have hrow : decodeRxByte (rxContext s) b = i := decode_rxByte_eq_instr_iff.mp hi
    rw [step_intake ht hp, hrow]
  case host => rw [step_host ht hp, decode_command_eq_instr_iff.mp hi]
  case consumer => exact step_consumer ht hp

end Sys2Proof.Proofs
end

section
/-! PROOFS. What one step can do, said once: the turn that takes from a port, the row that runs, and what the frame
that a delimiter closes does. The statements about every step are case splits over these rows. -/

namespace Sys2Proof.Machine

/-- A state but for what waits at the ports and the turns to come: what the fetch of a step leaves. -/
def TakenFrom (s u : State) : Prop :=
  ∃ (ts : List Agent) (bs : List Byte) (cs : List Command) (n : Nat),
    u = { s with turns := ts, rxPort := bs, cmdPort := cs, popRequests := n }

/-- What a received byte can do (R103 to R108). -/
inductive IntakeRow (b : Byte) (s : State) : State → Prop where
  /-- a byte in HUNT that is no delimiter, or the delimiter of an empty frame -/
  | ignored : IntakeRow b s s
  | opened : IntakeRow b s (openFrame s)
  | escaped (hmode : s.rxMode = .inFrame) : IntakeRow b s { s with esc := true }
  | discarded : IntakeRow b s (badEscape s)
  /-- a data byte, or the byte an escape sequence stands for -/
  | stored (v : Byte) (hmode : s.rxMode = .inFrame) : IntakeRow b s (bufAppend v { s with esc := false })
  | closed (hb : b = 0xC0) (hmode : s.rxMode = .inFrame) (hesc : s.esc = false) :
      IntakeRow b s (processFrame (collectedFrame s) (parserToHunt s))

/-- What a POP can do (R193, R194). -/
inductive PopRow (s : State) : State → Prop where
  | held : PopRow s (holdPop s)
  | delivered {slot : List Byte} {rest : List (List Byte)} (hfifo : s.fifo = slot :: rest) :
      PopRow s { s with fifo := rest, deliveries := s.deliveries ++ [deliveryOf slot] }

/-- What a command can do (R211 to R216, R237). -/
inductive CommandRow (s : State) : State → Prop where
  | reset : CommandRow s (resetEngine s)
  | start : CommandRow s (startEngine s)
  | stop : CommandRow s (stopEngine s)
  | send (t : PacketType) (p : List Byte) : CommandRow s (sendFrame t p s)
  | pop {u : State} (hpop : PopRow s u) : CommandRow s u
  | refused (r : Refusal) : CommandRow s (refuseCommand r s)

/-- What a step can do (R14, R60). -/
inductive StepRow (s : State) : State → Prop where
  | passed {u : State} (hfetch : TakenFrom s u) : StepRow s u
  | intake {u t : State} {b : Byte} (hturn : s.turns.head? = some .intake) (hport : s.rxPort.head? = some b)
      (hfetch : TakenFrom s u) (hrow : IntakeRow b u t) : StepRow s t
  | host {u t : State} (hturn : s.turns.head? = some .host) (hfetch : TakenFrom s u) (hrow : CommandRow u t) :
      StepRow s t
  | consumer {u t : State} (hfetch : TakenFrom s u) (hrow : PopRow u t) : StepRow s t

theorem closeFrame_row {s : State} (hmode : s.rxMode = .inFrame) (hesc : s.esc = false) :
    IntakeRow 0xC0 s (closeFrame s) := by
  unfold closeFrame
  split
  · exact .ignored
  · exact .closed rfl hmode hesc

/-- A byte runs a row of its parser context. -/
theorem exec_decodeRxByte_row {b : Byte} {s t : State} (h : exec (decodeRxByte (rxContext s) b) s = .next t) :
    IntakeRow b s t := by
  unfold rxContext at h
  cases hmode : s.rxMode with
  | hunt =>
    simp only [hmode, decodeRxByte] at h
    split at h
    · cases h; exact .opened
    · cases h; exact .ignored
  | inFrame =>
    simp only [hmode] at h
    cases hesc : s.esc with
    | true =>
      simp only [hesc, decodeRxByte] at h
      split at h
      · cases h; exact .stored _ hmode
      · split at h
        · cases h; exact .stored _ hmode
        · cases h; exact .discarded
    | false =>
      simp only [hesc, decodeRxByte] at h
      split at h
      · cases h; exact .escaped hmode
      · split at h
        · subst b; cases h; exact closeFrame_row hmode hesc
        · have hdata : ({ s with esc := false } : State) = s := by rw [← hesc]
          cases h
          exact hdata ▸ IntakeRow.stored b hmode

theorem exec_cmdPop_row {s t : State} (h : exec .cmdPop s = .next t) : PopRow s t := by
  have ht : (if popEnabled s then popFrame s else holdPop s) = t := Host.Outcome.next.inj h
  subst ht
  split
  · next hen =>
    cases hfifo : s.fifo with
    | nil => simp [popEnabled, hfifo] at hen
    | cons slot rest =>
      simp only [popFrame, hfifo]
      exact .delivered hfifo
  · exact .held

/-- A command runs the row of its op. -/
theorem exec_decodeCommand_row {c : Command} {s t : State} (h : exec (decodeCommand c) s = .next t) :
    CommandRow s t := by
  unfold decodeCommand at h
  split at h
  · cases h; exact .reset
  split at h
  · cases h; exact .start
  split at h
  · cases h; exact .stop
  split at h
  · cases h; exact .send _ _
  split at h
  · exact .pop (exec_cmdPop_row h)
  split at h
  · cases h; exact .refused _
  split at h
  · cases h; exact .refused _
  · cases h; exact .refused _

/-- An agent with nothing at its port passes its turn. -/
theorem row_of_passed_turn {s t : State} {ts : List Agent} (e : step s = .next { s with turns := ts })
    (h : step s = .next t) : StepRow s t := by
  cases e.symm.trans h
  exact .passed ⟨ts, s.rxPort, s.cmdPort, s.popRequests, rfl⟩

/-- Every step runs one of the rows on what the fetch leaves. -/
theorem step_row {s t : State} (h : step s = .next t) : StepRow s t := by
  rcases step_cases s with ⟨-, e⟩ | ⟨ts, -, -, e⟩ | ⟨ts, b, bs, ht, hp, e⟩ | ⟨ts, -, -, e⟩ | ⟨ts, c, cs, ht, hp, e⟩ |
    ⟨ts, -, -, e⟩ | ⟨ts, n, -, -, e⟩
  · exact row_of_passed_turn (ts := s.turns) e h
  · exact row_of_passed_turn e h
  · exact .intake (congrArg List.head? ht) (congrArg List.head? hp) ⟨ts, bs, s.cmdPort, s.popRequests, rfl⟩
      (exec_decodeRxByte_row (e.symm.trans h))
  · exact row_of_passed_turn e h
  · exact .host (congrArg List.head? ht) ⟨ts, s.rxPort, cs, s.popRequests, rfl⟩ (exec_decodeCommand_row (e.symm.trans h))
  · exact row_of_passed_turn e h
  · exact .consumer ⟨ts, s.rxPort, s.cmdPort, n, rfl⟩ (exec_cmdPop_row (e.symm.trans h))

/-- The state a frame's dispatch runs on, once the frame is not dropped (R144, R147). -/
def accept (h : FrameHeader) (s : State) : State := recordAck h (if h.reliable then acceptInOrder s else s)

/-- What a frame can do (R140): the three dispatches are R190, R160 and R152. -/
inductive FrameRow (f : List Byte) (s : State) : State → Prop where
  | dropped {e : EventCode} (he : e ≠ .evInitComplete) : FrameRow f s (logRecord e s)
  | outOfOrder : FrameRow f s (flushAck (dropOutOfOrder s))
  | queued {h : FrameHeader} (hlen : 4 ≤ f.length) : FrameRow f s (flushAck (fifoPush f (accept h s)))
  | handled {h : FrameHeader} {p : List Byte} (hf : f = headerBytes 15 h ++ p) (hadm : Admitted 15 h p s)
      (hseq : h.reliable = true → h.seq = s.txAck) : FrameRow f s (flushAck (linkControl p (accept h s)))
  | silent {h : FrameHeader} : FrameRow f s (flushAck (accept h s))

/-- The three checks before sequencing, as the statements name them. -/
theorem admitted_of_checks {t : PacketType} {h : FrameHeader} {p : List Byte} {s : State}
    (hc : headerVerifies t h = true) (hl : lengthDrops h p = false) (hg : gateDrops t s = false) :
    Admitted t h p s where
  checksum := by simpa [headerVerifies] using hc
  length := by
    cases hpol : Config.rxLengthPolicy with
    | exact => exact .inl (by simpa [lengthDrops, lengthAgrees, hpol] using hl)
    | ignore => exact .inr rfl
  gate := by
    by_cases ha : s.linkState = .active
    · exact .inl ha
    · exact .inr (by simpa [gateDrops, ha] using hg)

/-- The pipeline drops the frame with a record, drops it as out of order, or runs its dispatch. -/
theorem pipeline_row (t : PacketType) (h : FrameHeader) (p : List Byte) (d : State → State) (s : State) :
    (∃ e, e ≠ .evInitComplete ∧ pipeline t h p d s = logRecord e s) ∨
    pipeline t h p d s = flushAck (dropOutOfOrder s) ∨
    (Admitted t h p s ∧ (h.reliable = true → h.seq = s.txAck) ∧ pipeline t h p d s = flushAck (d (accept h s))) := by
  rcases pipeline_cases t h p d s with ⟨-, e⟩ | ⟨-, -, e⟩ | ⟨-, -, -, e⟩ | ⟨hc, hl, hg, hr, e⟩ |
    ⟨hc, hl, hg, hr, hs, e⟩ | ⟨-, -, -, -, -, e⟩
  · exact .inl ⟨.wChecksum, nofun, e⟩
  · exact .inl ⟨.eLength, nofun, e⟩
  · exact .inl ⟨.wNotActive, nofun, e⟩
  · exact .inr (.inr ⟨admitted_of_checks hc hl hg, fun h => absurd (hr.symm.trans h) nofun, by simpa [accept, hr] using e⟩)
  · exact .inr (.inr ⟨admitted_of_checks hc hl hg, fun _ => hs, by simpa [accept, hr] using e⟩)
  · exact .inr (.inl e)

/-- `ProcessFrame` runs one of the rows. -/
theorem processFrame_row (f : List Byte) (s : State) : FrameRow f s (processFrame f s) := by
  rcases processFrame_cases f s with ⟨-, e⟩ | ⟨t, h, p, hf, -, e⟩
  · rw [e]; exact .dropped nofun
  · obtain ⟨d, erun, hd⟩ := runFrame_pipeline t h p s
    rw [e, erun]
    rcases pipeline_row t h p d s with ⟨ev, hev, ep⟩ | ep | ⟨hadm, hseq, ep⟩
    · rw [ep]; exact .dropped hev
    · rw [ep]; exact .outOfOrder
    · rw [ep]
      rcases hd with ⟨-, rfl⟩ | ⟨rfl, rfl⟩ | ⟨-, rfl⟩
      · rw [← hf]; exact .queued (by simp [hf])
      · exact .handled hf hadm hseq
      · exact .silent

end Sys2Proof.Machine
end

section
/-! PROOFS. The invariants of the step boundary (R34, R35, R38): each operation keeps them. Inside a frame `ack_owed`
may be 1, so there the operations keep the others, and the flush that ends the frame gives it back. -/

namespace Sys2Proof.Machine

variable {s t u : State}

/-- The invariants that also hold inside a frame: all but a clear `ack_owed` (R144, R149). -/
def State.InFrameInv (s : State) : Prop := ({ s with ackOwed := false } : State).Inv

theorem State.Inv.inFrame (h : s.Inv) : s.InFrameInv := { h with ackOwed_clear := rfl }

theorem logRecord_inv (e : EventCode) (h : s.Inv) : (logRecord e s).Inv := { h with }

theorem txFrame_inv (ty : PacketType) (p : List Byte) (h : s.Inv) : (txFrame ty p s).Inv := by
  rw [txFrame_eq]
  exact { h with }

/-- The flush ends a frame: no acknowledgement stays owed. -/
theorem flushAck_inv (h : s.InFrameInv) : (flushAck s).Inv := by
  rw [flushAck_eq]
  split
  · exact { h with }
  · next hack => exact { h with ackOwed_clear := by simpa using hack }

theorem accept_inFrameInv (hd : FrameHeader) (h : s.InFrameInv) : (accept hd s).InFrameInv := by
  unfold accept
  split
  · exact { h with ooo_le := Nat.zero_le 2 }
  · exact { h with }

/-- Below the threshold the count goes up to 2 at most; at the threshold it is cleared. -/
theorem dropOutOfOrder_inFrameInv (h : s.InFrameInv) : (dropOutOfOrder s).InFrameInv := by
  rcases dropOutOfOrder_cases s with ⟨-, e⟩ | ⟨hdue, e⟩
  · rw [e]
    exact { h with ooo_le := Nat.zero_le 2 }
  · have hlt : s.oooCount.toNat + 1 < 3 := by simpa [resyncDue] using hdue
    rw [e]
    exact { h with ooo_le := show (s.oooCount + 1).toNat ≤ 2 by bv_omega }

theorem linkControl_inFrameInv (p : List Byte) (h : s.InFrameInv) : (linkControl p s).InFrameInv := by
  obtain ⟨ls, ss, a, b, c, w, o, f, dx, de, e, hwin, hooo, -, -, -⟩ := linkControl_effect p s
  have ho : o.toNat ≤ 2 := by
    rcases hooo with rfl | rfl
    · exact h.ooo_le
    · exact Nat.zero_le 2
  rw [e]
  exact { h with txWin_ne := hwin h.txWin_ne, ooo_le := ho }

/-- A frame is pushed only into a free slot. -/
theorem fifoPush_inFrameInv {f : List Byte} (hf : slotFits f = true) (h : s.InFrameInv) :
    (fifoPush f s).InFrameInv := by
  have hle : s.fifo.length ≤ 10 := h.fifo_le
  have hslots : ∀ slot ∈ s.fifo, slotFits slot = true := h.slots_fit
  rcases fifoPush_cases f s with ⟨-, e⟩ | ⟨hroom, e⟩
  · rw [e]
    exact { h with }
  · rw [e]
    exact { h with
      fifo_le := show (s.fifo ++ [f]).length ≤ 10 by rw [List.length_append, List.length_singleton]; omega
      slots_fit := by
        intro slot hmem
        rcases List.mem_append.mp hmem with hold | hnew
        · exact hslots slot hold
        · rw [List.mem_singleton.mp hnew]
          exact hf }

theorem FrameRow.inv {f : List Byte} (hrow : FrameRow f s t) (hf : f.length ≤ Config.maxFrame) (h : s.Inv) : t.Inv := by
  have hacc (hd : FrameHeader) : (accept hd s).InFrameInv := accept_inFrameInv hd h.inFrame
  cases hrow with
  | dropped => exact logRecord_inv _ h
  | outOfOrder => exact flushAck_inv (dropOutOfOrder_inFrameInv h.inFrame)
  | queued hlen => exact flushAck_inv (fifoPush_inFrameInv (by simp [slotFits, hlen, hf]) (hacc _))
  | handled => exact flushAck_inv (linkControl_inFrameInv _ (hacc _))
  | silent => exact flushAck_inv (hacc _)

theorem parserToHunt_inv (hesc : s.esc = false) (h : s.Inv) : (parserToHunt s).Inv :=
  { h with hunt_idle := fun _ => ⟨rfl, hesc⟩, rxLen_le := Nat.zero_le _ }

/-- The buffer takes a byte only below 4099, so `rx_len` stays in range and the storage canonical. -/
theorem bufAppend_inv (v : Byte) (hmode : s.rxMode = .inFrame) (h : s.Inv) : (bufAppend v s).Inv := by
  have hle : s.rxLen.toNat ≤ 4099 := h.rxLen_le
  rcases bufAppend_cases v s with ⟨-, e⟩ | ⟨hne, e⟩
  · rw [e]
    exact { h with hunt_idle := fun _ => ⟨rfl, rfl⟩, rxLen_le := Nat.zero_le _ }
  · have hlt : s.rxLen.toNat < 4099 := by
      have : s.rxLen.toNat ≠ 4099 := fun hc => hne (BitVec.eq_of_toNat_eq hc)
      omega
    rw [e]
    exact { h with
      hunt_idle := fun hhunt => absurd (hmode.symm.trans hhunt) nofun
      rxLen_le := show (s.rxLen + 1).toNat ≤ 4099 by bv_omega
      rxBuf_wf := wf_writeByte hlt h.rxBuf_wf }

theorem TakenFrom.inv (hfetch : TakenFrom s u) (h : s.Inv) : u.Inv := by
  obtain ⟨ts, bs, cs, n, rfl⟩ := hfetch
  exact { h with }

theorem IntakeRow.inv {b : Byte} (hrow : IntakeRow b s t) (h : s.Inv) : t.Inv := by
  cases hrow with
  | ignored => exact h
  | opened => exact { h with hunt_idle := nofun, rxLen_le := Nat.zero_le _ }
  | escaped hmode => exact { h with hunt_idle := fun hhunt => absurd (hmode.symm.trans hhunt) nofun }
  | discarded => exact { h with hunt_idle := fun _ => ⟨rfl, rfl⟩, rxLen_le := Nat.zero_le _ }
  | stored v hmode =>
    exact bufAppend_inv v hmode { h with hunt_idle := fun hhunt => absurd (hmode.symm.trans hhunt) nofun }
  | closed _ _ hesc =>
    have hlen : (collectedFrame s).length ≤ Config.maxFrame := by
      rw [collectedFrame, readBytes_length]
      exact h.rxLen_le
    exact (processFrame_row (collectedFrame s) (parserToHunt s)).inv hlen (parserToHunt_inv hesc h)

theorem PopRow.inv (hrow : PopRow s t) (h : s.Inv) : t.Inv := by
  cases hrow with
  | held => exact { h with }
  | @delivered slot rest hfifo =>
    have hle : (slot :: rest).length ≤ Config.fifoDepth := hfifo ▸ h.fifo_le
    exact { h with
      fifo_le := Nat.le_of_succ_le hle
      slots_fit := fun x hx => h.slots_fit x (by rw [hfifo]; exact List.mem_cons_of_mem slot hx) }

/-- RESET and START both write the protocol registers with sound values (R211, R212). -/
theorem protocolReset_inv (h : s.Inv) : (protocolReset s).Inv :=
  { h with
    txWin_ne := by simp
    ooo_le := Nat.zero_le 2
    ackOwed_clear := rfl
    hunt_idle := fun _ => ⟨rfl, rfl⟩
    rxLen_le := Nat.zero_le _ }

theorem sendFrame_inv (ty : PacketType) (p : List Byte) (h : s.Inv) : (sendFrame ty p s).Inv := by
  have hmark : (markEarlySend ty s).Inv := by
    unfold markEarlySend
    split
    · exact { h with }
    · exact h
  unfold sendFrame
  split
  · exact { h with }
  · exact txFrame_inv ty p hmark

theorem CommandRow.inv (hrow : CommandRow s t) (h : s.Inv) : t.Inv := by
  cases hrow with
  | reset => exact { protocolReset_inv h with fifo_le := Nat.zero_le _, slots_fit := nofun }
  | start => exact txFrame_inv _ _ { protocolReset_inv h with }
  | stop => exact { h with }
  | send ty p => exact sendFrame_inv ty p h
  | pop hpop => exact hpop.inv h
  | refused => exact { h with }

end Sys2Proof.Machine

namespace Sys2Proof.Proofs

open Sys2Proof.Machine

/-- Settles O50. -/
theorem resetMeetsTheInvariants : Obligations.ResetMeetsTheInvariants where
  txWin_ne := by decide
  ooo_le := by decide
  ackOwed_clear := rfl
  hunt_idle := fun _ => ⟨rfl, rfl⟩
  fifo_le := Nat.zero_le _
  slots_fit := nofun
  rxLen_le := Nat.zero_le _
  rxBuf_wf := rfl

/-- Settles O49: the fetch and each row of the step keep the invariants. -/
theorem everyStepKeepsTheInvariants : Obligations.EveryStepKeepsTheInvariants := by
  intro s t hinv hstep
  cases step_row hstep with
  | passed hfetch => exact hfetch.inv hinv
  | intake _ _ hfetch hrow => exact hrow.inv (hfetch.inv hinv)
  | host _ hfetch hrow => exact hrow.inv (hfetch.inv hinv)
  | consumer hfetch hrow => exact hrow.inv (hfetch.inv hinv)

end Sys2Proof.Proofs
end

section
/-! PROOFS. The model marks (R36, R238): every operation but SEND and the reserved ops leaves them as they are, and
these two only set them. -/

namespace Sys2Proof.Machine

variable {s t u : State}

/-- The three model marks (R36). -/
def State.marks (s : State) : Bool × Bool × Bool := (s.faultSendLength, s.oblEarlySend, s.refused)

/-- A mark that is set before is set after. -/
def MarksKept (s t : State) : Prop :=
  (s.faultSendLength = true → t.faultSendLength = true) ∧ (s.oblEarlySend = true → t.oblEarlySend = true) ∧
    (s.refused = true → t.refused = true)

theorem marksKept_of_eq (h : t.marks = s.marks) : MarksKept s t := by
  simp only [State.marks, Prod.mk.injEq] at h
  obtain ⟨hfault, hearly, hrefused⟩ := h
  exact ⟨hfault.trans, hearly.trans, hrefused.trans⟩

@[simp] theorem txFrame_marks (ty : PacketType) (p : List Byte) (s : State) : (txFrame ty p s).marks = s.marks := by
  rw [txFrame_eq]
  rfl

@[simp] theorem flushAck_marks (s : State) : (flushAck s).marks = s.marks := by
  rw [flushAck_eq]
  split <;> rfl

@[simp] theorem accept_marks (h : FrameHeader) (s : State) : (accept h s).marks = s.marks := by
  unfold accept
  split <;> rfl

@[simp] theorem dropOutOfOrder_marks (s : State) : (dropOutOfOrder s).marks = s.marks := by
  rcases dropOutOfOrder_cases s with ⟨-, e⟩ | ⟨-, e⟩ <;> rw [e] <;> rfl

@[simp] theorem fifoPush_marks (f : List Byte) (s : State) : (fifoPush f s).marks = s.marks := by
  rcases fifoPush_cases f s with ⟨-, e⟩ | ⟨-, e⟩ <;> rw [e] <;> rfl

@[simp] theorem linkControl_marks (p : List Byte) (s : State) : (linkControl p s).marks = s.marks := by
  obtain ⟨ls, ss, a, b, c, w, o, f, dx, de, e, -⟩ := linkControl_effect p s
  rw [e]
  rfl

@[simp] theorem bufAppend_marks (v : Byte) (s : State) : (bufAppend v s).marks = s.marks := by
  rcases bufAppend_cases v s with ⟨-, e⟩ | ⟨-, e⟩ <;> rw [e] <;> rfl

theorem FrameRow.marks {f : List Byte} (hrow : FrameRow f s t) : t.marks = s.marks := by
  cases hrow with
  | dropped => rfl
  | outOfOrder => simp
  | queued => simp
  | handled => simp
  | silent => simp

theorem TakenFrom.marks (hfetch : TakenFrom s u) : u.marks = s.marks := by
  obtain ⟨ts, bs, cs, n, rfl⟩ := hfetch
  rfl

theorem IntakeRow.marks {b : Byte} (hrow : IntakeRow b s t) : t.marks = s.marks := by
  cases hrow with
  | ignored => rfl
  | opened => rfl
  | escaped => rfl
  | discarded => rfl
  | stored v => exact bufAppend_marks v _
  | closed => exact (processFrame_row (collectedFrame s) (parserToHunt s)).marks

theorem PopRow.marks (hrow : PopRow s t) : t.marks = s.marks := by
  cases hrow with
  | held => rfl
  | delivered => rfl

/-- SEND may set `fault_send_length`, or `obl_early_send` before it transmits (R214, R215). -/
theorem sendFrame_marksKept (ty : PacketType) (p : List Byte) (s : State) : MarksKept s (sendFrame ty p s) := by
  unfold sendFrame
  split
  · exact ⟨fun _ => rfl, id, id⟩
  · rw [txFrame_eq]
    unfold markEarlySend
    split
    · exact ⟨id, fun _ => rfl, id⟩
    · exact ⟨id, id, id⟩

theorem CommandRow.marksKept (hrow : CommandRow s t) : MarksKept s t := by
  cases hrow with
  | reset => exact marksKept_of_eq rfl
  | start => exact marksKept_of_eq (txFrame_marks _ _ _)
  | stop => exact marksKept_of_eq rfl
  | send ty p => exact sendFrame_marksKept ty p s
  | pop hpop => exact marksKept_of_eq hpop.marks
  | refused => exact ⟨id, id, fun _ => rfl⟩

end Sys2Proof.Machine

namespace Sys2Proof.Proofs

open Sys2Proof.Machine

/-- Settles O51: only a command writes a mark, and it sets it. -/
theorem noStepClearsAMark : Obligations.NoStepClearsAMark := by
  intro s t hstep
  show MarksKept s t
  cases step_row hstep with
  | passed hfetch => exact marksKept_of_eq hfetch.marks
  | intake _ _ hfetch hrow => exact marksKept_of_eq (hrow.marks.trans hfetch.marks)
  | host _ hfetch hrow =>
    obtain ⟨ts, bs, cs, n, rfl⟩ := hfetch
    exact hrow.marksKept
  | consumer hfetch hrow => exact marksKept_of_eq (hrow.marks.trans hfetch.marks)

end Sys2Proof.Proofs
end

section
/-! PROOFS. The handshake (R22, R30, R161, R167, R211, R212): `link_state`, `init_fired` and the number of init-complete
records change only by a received link-control frame that is not dropped, or by RESET and START. -/

namespace Sys2Proof.Machine

variable {s t u : State}

/-- What the handshake writes: the link state, the once-per-handshake flag and how often it has notified. -/
structure Handshake where
  linkState : LinkState
  initFired : Bool
  notified : Nat

def State.handshake (s : State) : Handshake where
  linkState := s.linkState
  initFired := s.initFired
  notified := s.events.count .evInitComplete

theorem logRecord_handshake {e : EventCode} (he : e ≠ .evInitComplete) (s : State) :
    (logRecord e s).handshake = s.handshake := by
  simp [State.handshake, he]

@[simp] theorem txFrame_handshake (ty : PacketType) (p : List Byte) (s : State) :
    (txFrame ty p s).handshake = s.handshake := by
  rw [txFrame_eq]
  rfl

@[simp] theorem flushAck_handshake (s : State) : (flushAck s).handshake = s.handshake := by
  rw [flushAck_eq]
  split <;> rfl

@[simp] theorem accept_handshake (h : FrameHeader) (s : State) : (accept h s).handshake = s.handshake := by
  unfold accept
  split <;> rfl

@[simp] theorem dropOutOfOrder_handshake (s : State) : (dropOutOfOrder s).handshake = s.handshake := by
  rcases dropOutOfOrder_cases s with ⟨-, e⟩ | ⟨-, e⟩ <;> rw [e] <;> simp [State.handshake]

@[simp] theorem fifoPush_handshake (f : List Byte) (s : State) : (fifoPush f s).handshake = s.handshake := by
  rcases fifoPush_cases f s with ⟨-, e⟩ | ⟨-, e⟩ <;> rw [e] <;> simp [State.handshake]

@[simp] theorem bufAppend_handshake (v : Byte) (s : State) : (bufAppend v s).handshake = s.handshake := by
  rcases bufAppend_cases v s with ⟨-, e⟩ | ⟨-, e⟩ <;> rw [e] <;> simp [State.handshake]

theorem TakenFrom.handshake (hfetch : TakenFrom s u) : u.handshake = s.handshake := by
  obtain ⟨ts, bs, cs, n, rfl⟩ := hfetch
  rfl

/-- A link-control frame that reaches the handler: it is not dropped, and is in order if it is reliable (R140). -/
structure ReachesHandler (f : List Byte) (h : FrameHeader) (p : List Byte) (s : State) : Prop where
  frame : f = headerBytes 15 h ++ p
  admitted : Admitted 15 h p s
  inOrder : h.reliable = true → h.seq = s.txAck

/-- Only the link-control handler moves the handshake while a frame is processed. -/
theorem FrameRow.handshake {f : List Byte} (hrow : FrameRow f s t) :
    t.handshake = s.handshake ∨ ∃ h p, ReachesHandler f h p s ∧
      t.handshake = (linkControl p (accept h s)).handshake := by
  cases hrow with
  | dropped he => exact .inl (logRecord_handshake he s)
  | outOfOrder => exact .inl (by simp)
  | queued => exact .inl (by simp)
  | handled hf hadm hseq => exact .inr ⟨_, _, ⟨hf, hadm, hseq⟩, flushAck_handshake _⟩
  | silent => exact .inl (by simp)

/-- The closing delimiter of a link-control frame that reaches the handler is the next byte taken (R107). -/
structure ClosesLinkControl (h : FrameHeader) (p : List Byte) (s : State) : Prop where
  turn : s.turns.head? = some .intake
  delimiter : s.rxPort.head? = some 0xC0
  mode : s.rxMode = .inFrame
  noEscape : s.esc = false
  reaches : ReachesHandler (collectedFrame s) h p s

theorem IntakeRow.handshake {b : Byte} (hrow : IntakeRow b s t) :
    t.handshake = s.handshake ∨ ∃ h p, b = 0xC0 ∧ s.rxMode = .inFrame ∧ s.esc = false ∧
      ReachesHandler (collectedFrame s) h p s ∧
      ∃ v : State, v.handshake = s.handshake ∧ t.handshake = (linkControl p v).handshake := by
  cases hrow with
  | ignored => exact .inl rfl
  | opened => exact .inl rfl
  | escaped => exact .inl rfl
  | discarded => exact .inl (logRecord_handshake (e := .eBadEscape) nofun s)
  | stored v => exact .inl (bufAppend_handshake v _)
  | closed hb hmode hesc =>
    rcases (processFrame_row (collectedFrame s) (parserToHunt s)).handshake with hsame | ⟨h, p, hreach, hlc⟩
    · exact .inl hsame
    · exact .inr ⟨h, p, hb, hmode, hesc, ⟨hreach.frame, { hreach.admitted with }, hreach.inOrder⟩,
        accept h (parserToHunt s), accept_handshake h _, hlc⟩

theorem PopRow.handshake (hrow : PopRow s t) : t.handshake = s.handshake := by
  cases hrow with
  | held => rfl
  | delivered => rfl

theorem sendFrame_handshake (ty : PacketType) (p : List Byte) (s : State) :
    (sendFrame ty p s).handshake = s.handshake := by
  unfold sendFrame
  split
  · rfl
  · rw [txFrame_handshake]
    unfold markEarlySend
    split <;> rfl

/-- RESET and START take the link to UNINIT and give no notification; the other commands leave the handshake. -/
theorem CommandRow.handshake (hrow : CommandRow s t) :
    t.handshake = s.handshake ∨
      t.handshake = { linkState := .uninit, initFired := false, notified := s.handshake.notified } := by
  cases hrow with
  | reset => exact .inr rfl
  | start => exact .inr (txFrame_handshake _ _ _)
  | stop => exact .inl rfl
  | send ty p => exact .inl (sendFrame_handshake ty p s)
  | pop hpop => exact .inl hpop.handshake
  | refused => exact .inl rfl

/-- Everything a step can do to the handshake. -/
theorem step_handshake (hstep : step s = .next t) :
    t.handshake = s.handshake ∨
    (s.turns.head? = some .host ∧
      t.handshake = { linkState := .uninit, initFired := false, notified := s.handshake.notified }) ∨
    ∃ h p, ClosesLinkControl h p s ∧
      ∃ v : State, v.handshake = s.handshake ∧ t.handshake = (linkControl p v).handshake := by
  cases step_row hstep with
  | passed hfetch => exact .inl hfetch.handshake
  | intake hturn hport hfetch hrow =>
    obtain ⟨ts, bs, cs, n, rfl⟩ := hfetch
    rcases hrow.handshake with hsame | ⟨h, p, rfl, hmode, hesc, hreach, v, hv, hlc⟩
    · exact .inl hsame
    · exact .inr (.inr ⟨h, p, ⟨hturn, hport, hmode, hesc, hreach.frame, { hreach.admitted with }, hreach.inOrder⟩,
        v, hv, hlc⟩)
  | host hturn hfetch hrow =>
    rcases hrow.handshake with hsame | hreset
    · exact .inl (hsame.trans hfetch.handshake)
    · exact .inr (.inl ⟨hturn, hfetch.handshake ▸ hreset⟩)
  | consumer hfetch hrow => exact .inl (hrow.handshake.trans hfetch.handshake)

/-- The handler makes the link ACTIVE only for CONFIG_RESP (R167). -/
theorem linkControl_activates {p : List Byte} (hbefore : s.handshake.linkState ≠ .active)
    (hafter : (linkControl p s).handshake.linkState = .active) : ∃ rest, p = 0x04 :: 0x7B :: rest := by
  obtain ⟨ls, ss, a, b, c, w, o, f, dx, de, e, -, -, hactive, -, -⟩ := linkControl_effect p s
  rw [e] at hafter
  exact hactive hafter hbefore

/-- One notification at most, given by a move that sets `init_fired` and leaves the link ACTIVE (R30, R167). -/
def Handshake.NotifiesOnce (a b : Handshake) : Prop :=
  b.notified = a.notified ∨
    (a.initFired = false ∧ b.initFired = true ∧ b.linkState = .active ∧ b.notified = a.notified + 1)

theorem linkControl_notifiesOnce (p : List Byte) (s : State) :
    s.handshake.NotifiesOnce (linkControl p s).handshake := by
  obtain ⟨ls, ss, a, b, c, w, o, f, dx, de, e, -, -, -, hcount, -⟩ := linkControl_effect p s
  rw [e]
  rcases hcount with hnone | ⟨hclear, hset, hactive, hone⟩
  · exact .inl (by simp [State.handshake, hnone])
  · exact .inr ⟨hclear, hset, hactive, by simp [State.handshake, hone]⟩

/-- The handler clears `init_fired` only by the peer reset of an ACTIVE link (R161, R163, R164). -/
theorem linkControl_clears {p : List Byte} (hbefore : s.handshake.initFired = true)
    (hafter : (linkControl p s).handshake.initFired = false) :
    (linkControl p s).handshake.linkState ≠ .active ∧ s.handshake.linkState = .active := by
  obtain ⟨ls, ss, a, b, c, w, o, f, dx, de, e, -, -, -, -, hclear⟩ := linkControl_effect p s
  rw [e] at hafter ⊢
  exact hclear hbefore hafter

end Sys2Proof.Machine

namespace Sys2Proof.Proofs

open Sys2Proof.Machine

/-- Settles O59: of the three ways a step moves the handshake, only the handler reaches ACTIVE. -/
theorem onlyConfigRespActivates : Obligations.OnlyConfigRespActivates := by
  intro s t hstep hbefore hafter
  rcases step_handshake hstep with hsame | ⟨-, hreset⟩ | ⟨h, p, hclose, v, hv, hlc⟩
  · exact absurd ((congrArg Handshake.linkState hsame).symm.trans hafter) hbefore
  · exact absurd ((congrArg Handshake.linkState hreset).symm.trans hafter) nofun
  · have hvnot : v.handshake.linkState ≠ .active := by
      rw [hv]
      exact hbefore
    obtain ⟨rest, rfl⟩ := linkControl_activates hvnot ((congrArg Handshake.linkState hlc).symm.trans hafter)
    obtain ⟨hturn, hport, hmode, hesc, hframe, hadm, hseq⟩ := hclose
    exact ⟨hturn, hport, hmode, hesc, h, rest, hframe, hadm, hseq⟩

/-- O60 said of the handshake: how a step notifies, and how it clears `init_fired`. -/
theorem handshake_of_step {s t : State} (hstep : step s = .next t) :
    s.handshake.NotifiesOnce t.handshake ∧
    (s.handshake.initFired = true → t.handshake.initFired = false →
      t.handshake.linkState ≠ .active ∧
        (s.turns.head? = some .host ∨ (s.turns.head? = some .intake ∧ s.handshake.linkState = .active))) := by
  rcases step_handshake hstep with hsame | ⟨hturn, hreset⟩ | ⟨h, p, hclose, v, hv, hlc⟩
  · rw [hsame]
    exact ⟨.inl rfl, fun hset hclear => absurd (hset.symm.trans hclear) nofun⟩
  · rw [hreset]
    exact ⟨.inl rfl, fun _ _ => ⟨nofun, .inl hturn⟩⟩
  · rw [hlc, ← hv]
    refine ⟨linkControl_notifiesOnce p v, fun hset hclear => ?_⟩
    obtain ⟨hleft, hactive⟩ := linkControl_clears hset hclear
    exact ⟨hleft, .inr ⟨hclose.turn, hactive⟩⟩

/-- Settles O60: the notification comes with `init_fired`, which only a peer reset, RESET or START clears. -/
theorem initCompleteFiresOncePerHandshake : Obligations.InitCompleteFiresOncePerHandshake :=
  fun _ _ hstep => handshake_of_step hstep

end Sys2Proof.Proofs
end

section
/-! PROOFS. The three streams are observation (R37): an operation does the same whatever they already hold, and what
it appends goes behind that. -/

namespace Sys2Proof.Machine

/-- What the three streams hold (R37). -/
structure Streams where
  sent : List Byte
  delivered : List Delivery
  recorded : List EventCode

/-- The state with streams that already held `k` before what they hold in `s`. -/
def State.after (k : Streams) (s : State) : State :=
  { s with txStream := k.sent ++ s.txStream, deliveries := k.delivered ++ s.deliveries,
           events := k.recorded ++ s.events }

/-- An operation neither reads the streams nor changes what they already hold. -/
def StreamBlind (f : State → State) : Prop := ∀ (k : Streams) (s : State), f (s.after k) = (f s).after k

namespace StreamBlind

variable {f g : State → State} {c : State → Prop}

theorem id : StreamBlind fun s => s := fun _ _ => rfl

theorem comp (hf : StreamBlind f) (hg : StreamBlind g) : StreamBlind fun s => f (g s) := by
  intro k s
  show f (g (s.after k)) = (f (g s)).after k
  rw [hg, hf]

/-- A choice that the streams have no part in. -/
theorem ite [DecidablePred c] (hc : ∀ k s, c (s.after k) ↔ c s) (hf : StreamBlind f) (hg : StreamBlind g) :
    StreamBlind fun s => if c s then f s else g s := by
  intro k s
  by_cases h : c s
  · simp only [if_pos h, if_pos ((hc k s).mpr h), hf k s]
  · simp only [if_neg h, if_neg (mt (hc k s).mp h), hg k s]

end StreamBlind

/-! The operations of the model, in the order of their definitions. -/

theorem streamBlind_logRecord (e : EventCode) : StreamBlind (logRecord e) := by
  intro k s
  simp [logRecord, State.after]

theorem streamBlind_txFrame (t : PacketType) (p : List Byte) : StreamBlind (txFrame t p) := by
  intro k s
  rw [txFrame_eq, txFrame_eq]
  simp [State.after, sendSeq]

theorem streamBlind_emit (bs : List Byte) : StreamBlind (emit bs) := by
  intro k s
  simp [emit, State.after]

theorem streamBlind_sendLc (p : List Byte) : StreamBlind (sendLc p) := streamBlind_txFrame linkControlType p

theorem streamBlind_parserToHunt : StreamBlind parserToHunt := fun _ _ => rfl

theorem streamBlind_bufAppend (v : Byte) : StreamBlind (bufAppend v) := by
  have hover : StreamBlind fun s => { parserToHunt (logRecord .eOversize s) with esc := false } :=
    .comp (f := fun s => { parserToHunt s with esc := false }) (fun _ _ => rfl) (streamBlind_logRecord .eOversize)
  exact .ite (fun _ _ => .rfl) hover fun _ _ => rfl

theorem streamBlind_fifoPush (f : List Byte) : StreamBlind (fifoPush f) :=
  .ite (fun _ _ => .rfl) (streamBlind_logRecord .eFifoFull) fun _ _ => rfl

theorem streamBlind_resetIfActive : StreamBlind resetIfActive :=
  .ite (fun _ _ => .rfl) (fun _ _ => rfl) .id

theorem streamBlind_dropOutOfOrder : StreamBlind dropOutOfOrder := by
  have hwarn (x : State → State) (hx : StreamBlind x) : StreamBlind fun s => logRecord .wOutOfOrder (x s) :=
    (streamBlind_logRecord _).comp hx
  have hresync : StreamBlind fun s =>
      { sendLc syncReqPayload (logRecord .iResync (logRecord .wOutOfOrder { s with ackOwed := true })) with oooCount := 0 } :=
    .comp (f := fun s => { sendLc syncReqPayload s with oooCount := 0 })
      (.comp (f := fun s => { s with oooCount := 0 }) (fun _ _ => rfl) (streamBlind_sendLc _))
      ((streamBlind_logRecord _).comp (hwarn (fun s => { s with ackOwed := true }) fun _ _ => rfl))
  exact .ite (fun _ _ => .rfl) hresync (hwarn (fun s => { s with ackOwed := true, oooCount := s.oooCount + 1 }) fun _ _ => rfl)

theorem streamBlind_flushAck : StreamBlind flushAck :=
  .ite (fun _ _ => .rfl)
    (.comp (f := fun s => { s with ackOwed := false }) (fun _ _ => rfl) (streamBlind_txFrame ackType [])) .id

section pipeline

variable {d : State → State} (t : PacketType) (h : FrameHeader) (p : List Byte) (hd : StreamBlind d)

include hd

theorem streamBlind_sequenceFrame : StreamBlind (sequenceFrame h d) :=
  .ite (fun _ _ => .rfl)
    (.ite (fun _ _ => .rfl) (hd.comp (g := fun s => recordAck h (acceptInOrder s)) fun _ _ => rfl)
      streamBlind_dropOutOfOrder)
    (hd.comp (g := recordAck h) fun _ _ => rfl)

theorem streamBlind_pipeline : StreamBlind (pipeline t h p d) :=
  .ite (fun _ _ => .rfl) (streamBlind_logRecord _) <|
    .ite (fun _ _ => .rfl) (streamBlind_logRecord _) <|
      .ite (fun _ _ => .rfl) (streamBlind_logRecord _) <|
        streamBlind_flushAck.comp (streamBlind_sequenceFrame h hd)

end pipeline

theorem streamBlind_startEngine : StreamBlind startEngine :=
  (streamBlind_txFrame _ _).comp (g := fun s => { protocolReset s with running := true }) fun _ _ => rfl

theorem streamBlind_sendFrame (t : PacketType) (p : List Byte) : StreamBlind (sendFrame t p) :=
  .ite (fun _ _ => .rfl) (fun _ _ => rfl) <|
    (streamBlind_txFrame t p).comp (g := markEarlySend t) (.ite (fun _ _ => .rfl) (fun _ _ => rfl) .id)

theorem streamBlind_popFrame : StreamBlind popFrame := by
  intro k s
  cases hfifo : s.fifo with
  | nil => simp [popFrame, State.after, hfifo]
  | cons slot rest => simp [popFrame, State.after, hfifo]

theorem streamBlind_syncReq : StreamBlind syncReq := (streamBlind_sendLc _).comp streamBlind_resetIfActive

theorem streamBlind_syncResp : StreamBlind syncResp :=
  (streamBlind_sendLc _).comp <|
    .comp (f := fun s => { s with linkState := .init }) (fun _ _ => rfl) streamBlind_resetIfActive

theorem streamBlind_configReq : StreamBlind configReq := (streamBlind_sendLc _).comp (streamBlind_sendLc _)

theorem streamBlind_fireInit : StreamBlind fireInit :=
  .ite (fun _ _ => .rfl) .id <| (streamBlind_logRecord _).comp (g := fun s => { s with initFired := true }) fun _ _ => rfl

theorem streamBlind_configResp (rest : List Byte) : StreamBlind (configResp rest) :=
  streamBlind_fireInit.comp (g := fun s => { s with txWin := adoptedWindow rest s.txWin, linkState := .active })
    fun _ _ => rfl

theorem streamBlind_wakeupReq : StreamBlind wakeupReq :=
  .comp (f := fun s => { s with sleepState := .awake }) (fun _ _ => rfl) (streamBlind_sendLc _)

theorem streamBlind_linkControl (p : List Byte) : StreamBlind (linkControl p) := by
  unfold linkControl
  cases lcMessage p with
  | syncReq => exact streamBlind_syncReq
  | syncResp => exact streamBlind_syncResp
  | configReq => exact streamBlind_configReq
  | configResp rest => exact streamBlind_configResp rest
  | sleepReq => exact fun _ _ => rfl
  | wokenReq => exact fun _ _ => rfl
  | wakeupReq => exact streamBlind_wakeupReq
  | unknown => exact streamBlind_logRecord _

/-- A frame of any class is a pipeline whose dispatch pushes it, handles it or does nothing (R152). -/
theorem streamBlind_runFrame (c : PacketClass) (h : FrameHeader) (p : List Byte) : StreamBlind (runFrame c h p) := by
  cases c with
  | ack => exact streamBlind_pipeline _ h p .id
  | command => exact streamBlind_pipeline _ h p .id
  | acl => exact streamBlind_pipeline _ h p (streamBlind_fifoPush _)
  | sco => exact streamBlind_pipeline _ h p (streamBlind_fifoPush _)
  | event => exact streamBlind_pipeline _ h p (streamBlind_fifoPush _)
  | iso => exact streamBlind_pipeline _ h p (streamBlind_fifoPush _)
  | linkControl => exact streamBlind_pipeline _ h p (streamBlind_linkControl p)
  | reserved t => exact streamBlind_pipeline t h p .id

theorem streamBlind_processFrame (f : List Byte) : StreamBlind (processFrame f) := by
  unfold processFrame
  split
  · exact streamBlind_runFrame _ _ _
  · exact streamBlind_logRecord _

theorem streamBlind_badEscape : StreamBlind badEscape :=
  streamBlind_parserToHunt.comp <| (streamBlind_logRecord _).comp (g := fun s => { s with esc := false }) fun _ _ => rfl

/-- The frame processed is the one collected, whatever the streams hold. -/
theorem streamBlind_closeFrame : StreamBlind closeFrame := by
  refine .ite (fun _ _ => .rfl) .id fun k s => ?_
  rw [streamBlind_parserToHunt k s]
  exact streamBlind_processFrame (collectedFrame s) k (parserToHunt s)

theorem streamBlind_resolveEscape (v : Byte) : StreamBlind fun s => bufAppend v { s with esc := false } :=
  (streamBlind_bufAppend v).comp (g := fun s => { s with esc := false }) fun _ _ => rfl

theorem streamBlind_execPop : StreamBlind fun s => if popEnabled s then popFrame s else holdPop s :=
  .ite (fun _ _ => .rfl) streamBlind_popFrame fun _ _ => rfl

/-- Every instruction is an operation that neither reads the streams nor changes what they already hold. -/
theorem exec_streamBlind : ∀ i : Instr, ∃ f, StreamBlind f ∧ ∀ s, exec i s = .next (f s)
  | .rxbEndHunt => ⟨openFrame, fun _ _ => rfl, fun _ => rfl⟩
  | .rxbOtherHunt _ => ⟨_, .id, fun _ => rfl⟩
  | .rxbEsc => ⟨fun s => { s with esc := true }, fun _ _ => rfl, fun _ => rfl⟩
  | .rxbEscEnd => ⟨_, streamBlind_resolveEscape _, fun _ => rfl⟩
  | .rxbEscEsc => ⟨_, streamBlind_resolveEscape _, fun _ => rfl⟩
  | .rxbBadEscape _ => ⟨_, streamBlind_badEscape, fun _ => rfl⟩
  | .rxbEndFrame => ⟨_, streamBlind_closeFrame, fun _ => rfl⟩
  | .rxbData b => ⟨_, streamBlind_bufAppend b, fun _ => rfl⟩
  | .txStuffEnd => ⟨_, streamBlind_emit _, fun _ => rfl⟩
  | .txStuffEsc => ⟨_, streamBlind_emit _, fun _ => rfl⟩
  | .frameAck h p => ⟨_, streamBlind_runFrame .ack h p, fun _ => rfl⟩
  | .frameCommand h p => ⟨_, streamBlind_runFrame .command h p, fun _ => rfl⟩
  | .frameAcl h p => ⟨_, streamBlind_runFrame .acl h p, fun _ => rfl⟩
  | .frameSco h p => ⟨_, streamBlind_runFrame .sco h p, fun _ => rfl⟩
  | .frameEvent h p => ⟨_, streamBlind_runFrame .event h p, fun _ => rfl⟩
  | .frameIso h p => ⟨_, streamBlind_runFrame .iso h p, fun _ => rfl⟩
  | .frameLinkControl h p => ⟨_, streamBlind_runFrame .linkControl h p, fun _ => rfl⟩
  | .frameReserved t h p => ⟨_, streamBlind_runFrame (.reserved t) h p, fun _ => rfl⟩
  | .lcSyncReq _ => ⟨_, streamBlind_syncReq, fun _ => rfl⟩
  | .lcSyncResp _ => ⟨_, streamBlind_syncResp, fun _ => rfl⟩
  | .lcConfigReq _ => ⟨_, streamBlind_configReq, fun _ => rfl⟩
  | .lcConfigResp rest => ⟨_, streamBlind_configResp rest, fun _ => rfl⟩
  | .lcSleepReq _ => ⟨sleepReq, fun _ _ => rfl, fun _ => rfl⟩
  | .lcWokenReq _ => ⟨wokenReq, fun _ _ => rfl, fun _ => rfl⟩
  | .lcWakeupReq _ => ⟨_, streamBlind_wakeupReq, fun _ => rfl⟩
  | .lcUnknown _ => ⟨_, streamBlind_logRecord _, fun _ => rfl⟩
  | .cmdReset => ⟨resetEngine, fun _ _ => rfl, fun _ => rfl⟩
  | .cmdStart => ⟨_, streamBlind_startEngine, fun _ => rfl⟩
  | .cmdStop => ⟨stopEngine, fun _ _ => rfl, fun _ => rfl⟩
  | .cmdSend t p => ⟨_, streamBlind_sendFrame t p, fun _ => rfl⟩
  | .cmdPop => ⟨_, streamBlind_execPop, fun _ => rfl⟩
  | .reservedOp101 => ⟨refuseCommand (.reservedOp 5), fun _ _ => rfl, fun _ => rfl⟩
  | .reservedOp110 => ⟨refuseCommand (.reservedOp 6), fun _ _ => rfl, fun _ => rfl⟩
  | .reservedOp111 => ⟨refuseCommand (.reservedOp 7), fun _ _ => rfl, fun _ => rfl⟩

theorem exec_after {i : Instr} {s t : State} (k : Streams) (h : exec i s = .next t) :
    exec i (s.after k) = .next (t.after k) := by
  obtain ⟨f, hf, hexec⟩ := exec_streamBlind i
  cases (hexec s).symm.trans h
  rw [hexec, hf]

/-- The turns and the ports decide what a step runs; the streams do not. -/
theorem fetch_after (k : Streams) (s : State) : fetch (s.after k) = ((fetch s).1, (fetch s).2.after k) := by
  unfold fetch
  cases hturns : s.turns with
  | nil => simp [State.after, hturns]
  | cons agent ts =>
    cases agent with
    | intake => cases hport : s.rxPort <;> simp [State.after, hturns, fetchByte, hport, rxContext]
    | host => cases hport : s.cmdPort <;> simp [State.after, hturns, fetchCommand, hport]
    | consumer => cases hport : s.popRequests <;> simp [State.after, hturns, fetchPop, hport]

/-- A step does the same whatever the streams already hold. -/
theorem step_after {s t : State} (k : Streams) (h : step s = .next t) : step (s.after k) = .next (t.after k) := by
  unfold step at h ⊢
  rw [fetch_after]
  generalize fetch s = taken at h ⊢
  obtain ⟨i, u⟩ := taken
  cases i with
  | none => cases h; rfl
  | some i => exact exec_after k h

/-- A step always answers a next state (R232). -/
theorem exists_step_next (s : State) : ∃ t : State, step s = .next t := by
  unfold step
  obtain ⟨i, u⟩ := fetch s
  cases i with
  | none => exact ⟨u, rfl⟩
  | some i => exact exec_next i u

/-- The state with nothing in its streams. -/
def State.silenced (s : State) : State := { s with txStream := [], deliveries := [], events := [] }

theorem silenced_after (k : Streams) (s : State) :
    s.silenced.after k = { s with txStream := k.sent, deliveries := k.delivered, events := k.recorded } := by
  simp [State.after, State.silenced]

end Sys2Proof.Machine

namespace Sys2Proof.Proofs

open Sys2Proof.Machine

/-- Settles O53: what a step appends is what it puts on empty streams, and any contents stand before that. -/
theorem streamsAreAppendOnlyAndNeverRead : Obligations.StreamsAreAppendOnlyAndNeverRead := by
  intro s t hstep
  obtain ⟨u, hu⟩ := exists_step_next s.silenced
  have hany (a : List Byte) (b : List Delivery) (c : List EventCode) :
      step { s with txStream := a, deliveries := b, events := c } = .next (u.after ⟨a, b, c⟩) := by
    rw [← step_after ⟨a, b, c⟩ hu, silenced_after]
  have ht : t = u.after ⟨s.txStream, s.deliveries, s.events⟩ :=
    Host.Outcome.next.inj (hstep.symm.trans (hany s.txStream s.deliveries s.events))
  subst ht
  exact ⟨u.txStream, u.deliveries, u.events, rfl, rfl, rfl, hany⟩

end Sys2Proof.Proofs
end

section
/-! PROOFS. How many bytes the stuffing of a frame takes (R70, R71, R82, R100, R101). -/

namespace Sys2Proof.Machine

/-- A data byte is sent as one byte or as an escape of two (R100). -/
theorem encodeByte_length_bounds (b : Byte) : 1 ≤ (encodeByte b).length ∧ (encodeByte b).length ≤ 2 := by
  rcases encodeByte_cases b with ⟨-, e⟩ | ⟨-, e⟩ | ⟨-, -, e⟩ <;> simp [e]

/-- Stuffing never shortens a sequence and at most doubles it (R101). -/
theorem stuff_length_bounds (f : List Byte) : f.length ≤ (stuff f).length ∧ (stuff f).length ≤ 2 * f.length := by
  induction f with
  | nil => exact ⟨Nat.le_refl 0, Nat.le_refl 0⟩
  | cons b bs ih =>
    have hb := encodeByte_length_bounds b
    simp only [stuff, List.length_append, List.length_cons]
    omega

/-- The two delimiters stand around the stuffed frame (R71). -/
@[simp] theorem wireFrame_length (f : List Byte) : (wireFrame f).length = (stuff f).length + 2 := by
  simp only [wireFrame, List.length_append, List.length_singleton]
  omega

@[simp] theorem encodeHeader_length (t : PacketType) (r : Bool) (s a : Seq) (len : Length) :
    (encodeHeader t r s a len).length = 4 := headerBytes_length t _

end Sys2Proof.Machine

namespace Sys2Proof.Proofs

open Sys2Proof.Machine

/-- Settles O6: the stuffing bounds at the four header bytes and the payload, and the two delimiters. -/
theorem wireLengthIsBounded : Obligations.WireLengthIsBounded := by
  intro t r s a p
  have hstuff := stuff_length_bounds (encodeHeader t r s a (BitVec.ofNat 12 p.length) ++ p)
  rw [List.length_append, encodeHeader_length] at hstuff
  rw [wire, wireFrame_length]
  omega

end Sys2Proof.Proofs
end

section
/-! PROOFS. A frame that passes every check and is not out of order is accepted (R140, R144, R147), and an ACK, a
COMMAND or a reserved type does nothing beyond that (R76, R152). -/

namespace Sys2Proof.Machine

variable {t : PacketType} {h : FrameHeader} {p : List Byte} {s : State}

/-- The checks of the pipeline before sequencing let an admitted frame through: the converse of
`admitted_of_checks`. -/
theorem Admitted.checks (hadm : Admitted t h p s) :
    headerVerifies t h = true ∧ lengthDrops h p = false ∧ gateDrops t s = false := by
  refine ⟨?checksum, ?length, ?gate⟩
  case checksum => simp [headerVerifies, hadm.checksum]
  case length => rcases hadm.length with hlen | hpol <;> simp [lengthDrops, lengthAgrees, *]
  case gate => rcases hadm.gate with hactive | hlc <;> simp [gateDrops, *]

/-- An admitted frame reaches sequencing (R140). -/
theorem Admitted.pipeline_eq (hadm : Admitted t h p s) (d : State → State) :
    pipeline t h p d s = flushAck (sequenceFrame h d s) := by
  obtain ⟨hc, hl, hg⟩ := hadm.checks
  simp [pipeline, hc, hl, hg]

/-- Sequencing accepts an unreliable frame and an in-order reliable one (R144, R147). -/
theorem sequenceFrame_of_inOrder (hseq : h.reliable = true → h.seq = s.txAck) (d : State → State) :
    sequenceFrame h d s = d (accept h s) := by
  cases hr : h.reliable with
  | false => simp [sequenceFrame, accept, hr]
  | true => simp [sequenceFrame, accept, inWindow, hr, hseq hr]

/-- The end of an accepted reliable frame: the ACK carries the advanced `tx_ack` (R144, R149). -/
theorem flushAck_accept_of_reliable (hr : h.reliable = true) :
    flushAck (accept h s) = { s with
      txAck := s.txAck + 1, oooCount := 0, ackOwed := false, rxAck := h.ack,
      txStream := s.txStream ++ wire 0 false 0 (s.txAck + 1) [] } := by
  simp [flushAck_eq, accept, hr, recordAck, acceptInOrder]

/-- The end of an accepted unreliable frame, with no acknowledgement owed: nothing is sent (R147, R149). -/
theorem flushAck_accept_of_unreliable (hr : h.reliable = false) (hack : s.ackOwed = false) :
    flushAck (accept h s) = { s with rxAck := h.ack } := by
  simp [flushAck_eq, accept, hr, recordAck, hack]

/-- A silent frame runs the pipeline with a dispatch that does nothing (R76, R152). -/
theorem SilentFrame.exec_eq {mk : FrameHeader → List Byte → Instr} (hsilent : SilentFrame t mk) :
    exec (mk h p) s = .next (pipeline t h p (fun x => x) s) := by
  rcases hsilent with ⟨rfl, rfl⟩ | ⟨rfl, rfl⟩ | ⟨-, rfl⟩ <;> rfl

/-- A silent frame that is not dropped is accepted, and the owed ACK goes out. -/
theorem SilentFrame.exec_of_inOrder {mk : FrameHeader → List Byte → Instr} (hsilent : SilentFrame t mk)
    (hadm : Admitted t h p s) (hseq : h.reliable = true → h.seq = s.txAck) :
    exec (mk h p) s = .next (flushAck (accept h s)) := by
  rw [hsilent.exec_eq, hadm.pipeline_eq, sequenceFrame_of_inOrder hseq]

end Sys2Proof.Machine

namespace Sys2Proof.Proofs

open Sys2Proof.Machine

/-- Settles O26: either way the frame is accepted and flushed; only a reliable one owes an ACK. -/
theorem silentFrameIsSequencedOnly : Obligations.SilentFrameIsSequencedOnly := by
  intro t mk h p s hsilent hadm
  refine ⟨fun hr hseq => ?reliable, fun hr hack => ?unreliable⟩
  case reliable =>
    rw [hsilent.exec_of_inOrder hadm fun _ => hseq, flushAck_accept_of_reliable hr]
  case unreliable =>
    have hnot : h.reliable = true → h.seq = s.txAck := by simp [hr]
    rw [hsilent.exec_of_inOrder hadm hnot, flushAck_accept_of_unreliable hr hack]

end Sys2Proof.Proofs
end

section
/-! PROOFS. The transmit stuffing (R100, R101): what each byte is sent as, and what a stuffed sequence can hold. -/

namespace Sys2Proof.Machine

theorem encodeByte_slipEnd : encodeByte 0xC0 = [0xDB, 0xDC] := rfl

theorem encodeByte_slipEsc : encodeByte 0xDB = [0xDB, 0xDD] := rfl

theorem encodeByte_of_ne {b : Byte} (hend : b ≠ 0xC0) (hesc : b ≠ 0xDB) : encodeByte b = [b] :=
  (if_neg hend).trans (if_neg hesc)

/-- Each escape in the sequence starts a pair (R101). -/
def EscapesPaired (bs : List Byte) : Prop :=
  ∀ k : Nat, bs[k]? = some 0xDB → bs[k + 1]? = some 0xDC ∨ bs[k + 1]? = some 0xDD

/-- A pair lies on one side of the seam: the partner of an escape in the first part is in the first part. -/
theorem EscapesPaired.append {xs ys : List Byte} (hx : EscapesPaired xs) (hy : EscapesPaired ys) :
    EscapesPaired (xs ++ ys) := by
  intro k hk
  by_cases hlt : k < xs.length
  · rw [List.getElem?_append_left hlt] at hk
    have hpartner := hx k hk
    have hin : k + 1 < xs.length := by
      by_contra hout
      rw [List.getElem?_eq_none (Nat.le_of_not_lt hout)] at hpartner
      simp at hpartner
    rwa [List.getElem?_append_left hin]
  · have hge : xs.length ≤ k := Nat.le_of_not_lt hlt
    rw [List.getElem?_append_right hge] at hk
    rw [List.getElem?_append_right (Nat.le_succ_of_le hge), Nat.succ_sub hge]
    exact hy _ hk

theorem escapesPaired_singleton {b : Byte} (hb : b ≠ 0xDB) : EscapesPaired [b]
  | 0, hk => absurd (by simpa using hk) hb
  | _ + 1, hk => by simp at hk

theorem escapesPaired_pair {b : Byte} (hb : b = 0xDC ∨ b = 0xDD) : EscapesPaired [0xDB, b]
  | 0, _ => by simpa using hb
  | 1, hk => by rcases hb with rfl | rfl <;> simp at hk
  | _ + 2, hk => by simp at hk

theorem escapesPaired_encodeByte (b : Byte) : EscapesPaired (encodeByte b) := by
  rcases encodeByte_cases b with ⟨-, e⟩ | ⟨-, e⟩ | ⟨-, hesc, e⟩ <;> rw [e]
  · exact escapesPaired_pair (.inl rfl)
  · exact escapesPaired_pair (.inr rfl)
  · exact escapesPaired_singleton hesc

theorem slipEnd_notMem_encodeByte (b : Byte) : (0xC0 : Byte) ∉ encodeByte b := by
  rcases encodeByte_cases b with ⟨-, e⟩ | ⟨-, e⟩ | ⟨hend, -, e⟩ <;> rw [e]
  · decide
  · decide
  · simpa using hend.symm

theorem escapesPaired_stuff (bs : List Byte) : EscapesPaired (stuff bs) := by
  induction bs with
  | nil => intro k hk; simp [stuff] at hk
  | cons b bs ih => exact (escapesPaired_encodeByte b).append ih

theorem slipEnd_notMem_stuff (bs : List Byte) : (0xC0 : Byte) ∉ stuff bs := by
  induction bs with
  | nil => exact List.not_mem_nil
  | cons b bs ih => simpa only [stuff, List.mem_append, not_or] using ⟨slipEnd_notMem_encodeByte b, ih⟩

end Sys2Proof.Machine

namespace Sys2Proof.Proofs

open Sys2Proof.Machine

/-- Settles O4. -/
theorem encodeByteEscapesTheTwoReservedValues : Obligations.EncodeByteEscapesTheTwoReservedValues :=
  ⟨encodeByte_slipEnd, encodeByte_slipEsc, fun _ => encodeByte_of_ne⟩

/-- Settles O5, by induction on the sequence: each byte's encoding has both properties, and appending keeps them. -/
theorem stuffedBytesHoldNoDelimiter : Obligations.StuffedBytesHoldNoDelimiter :=
  fun bs => ⟨slipEnd_notMem_stuff bs, escapesPaired_stuff bs⟩

end Sys2Proof.Proofs
end

section
/-! PROOFS. The rows of a received byte (R103 to R108): what each does to the parser, and the frame that a closing
delimiter runs (R107, R141). -/

namespace Sys2Proof.Machine

variable {s : State}

/-- With 4099 bytes collected, a byte more discards the frame (R106). -/
theorem bufAppend_of_full (v : Byte) (hfull : s.rxLen = 4099) :
    bufAppend v s = { s with rxMode := .hunt, rxLen := 0, esc := false, events := s.events ++ [.eOversize] } := by
  rcases bufAppend_cases v s with ⟨-, e⟩ | ⟨hroom, -⟩
  · exact e
  · exact absurd hfull hroom

/-- With room, the byte is stored at `rx_len` (R106). -/
theorem bufAppend_of_room (v : Byte) (hroom : s.rxLen ≠ 4099) :
    bufAppend v s = { s with rxBuf := writeByte s.rxBuf s.rxLen.toNat v, rxLen := s.rxLen + 1 } := by
  rcases bufAppend_cases v s with ⟨hfull, -⟩ | ⟨-, e⟩
  · exact absurd hfull hroom
  · exact e

theorem exec_rxbEscEnd (s : State) : exec .rxbEscEnd s = .next (bufAppend 0xC0 { s with esc := false }) := rfl

theorem exec_rxbEscEsc (s : State) : exec .rxbEscEsc s = .next (bufAppend 0xDB { s with esc := false }) := rfl

theorem exec_rxbData (b : Byte) (s : State) : exec (.rxbData b) s = .next (bufAppend b s) := rfl

/-- The delimiter of an empty frame changes nothing (R107). -/
theorem exec_rxbEndFrame_of_empty (hempty : s.rxLen = 0) : exec .rxbEndFrame s = .next s :=
  congrArg Host.Outcome.next (if_pos hempty)

/-- The delimiter of any other frame processes what is collected, the parser back in HUNT (R107). -/
theorem exec_rxbEndFrame_of_pos (hpos : 0 < s.rxLen.toNat) :
    exec .rxbEndFrame s = .next (processFrame (collectedFrame s) (parserToHunt s)) := by
  have hne : s.rxLen ≠ 0 := by
    intro hzero
    simp [hzero] at hpos
  exact congrArg Host.Outcome.next (if_neg hne)

@[simp] theorem collectedFrame_length (s : State) : (collectedFrame s).length = s.rxLen.toNat := readBytes_length

/-- A frame without a whole header is a runt (R141). -/
theorem processFrame_of_runt {f : List Byte} (hlen : f.length < 4) (s : State) :
    processFrame f s = logRecord .eRunt s := by
  rcases processFrame_cases f s with ⟨-, e⟩ | ⟨t, h, p, rfl, -, -⟩
  · exact e
  · simp at hlen

/-- A frame with a header decodes to an instruction, and processing it is that instruction's meaning (R140). -/
theorem exec_of_processFrame {f : List Byte} (hlen : 4 ≤ f.length) (s : State) :
    ∃ i : Instr, decode (.frame f) = .instr i ∧ exec i s = .next (processFrame f s) := by
  rcases processFrame_cases f s with ⟨hlt, -⟩ | ⟨t, h, p, -, hdec, e⟩
  · omega
  · exact ⟨frameInstr (packetClass t) h p, hdec, by rw [exec_frameInstr, e]⟩

end Sys2Proof.Machine

namespace Sys2Proof.Proofs

open Sys2Proof.Machine

/-- Settles O11. -/
theorem huntOpensOnDelimiterOnly : Obligations.HuntOpensOnDelimiterOnly :=
  ⟨fun _ => rfl, fun _ _ => rfl⟩

/-- Settles O12. -/
theorem escapeSetsTheFlagOnly : Obligations.EscapeSetsTheFlagOnly := fun _ => rfl

/-- Settles O13: both escapes append the byte they stand for, in the state with `esc` cleared. -/
theorem escapedByteIsResolved : Obligations.EscapedByteIsResolved := by
  intro s
  refine ⟨fun hroom => ?room, fun hfull => ?full, fun b => rfl⟩
  case room =>
    rw [exec_rxbEscEnd, exec_rxbEscEsc, bufAppend_of_room (s := { s with esc := false }) _ hroom,
      bufAppend_of_room (s := { s with esc := false }) _ hroom]
    exact ⟨rfl, rfl⟩
  case full =>
    rw [exec_rxbEscEnd, exec_rxbEscEsc, bufAppend_of_full (s := { s with esc := false }) _ hfull,
      bufAppend_of_full (s := { s with esc := false }) _ hfull]
    exact ⟨rfl, rfl⟩

/-- Settles O14. -/
theorem dataByteIsCollectedOrOverflows : Obligations.DataByteIsCollectedOrOverflows := by
  intro b s
  rw [exec_rxbData]
  exact ⟨fun hroom => congrArg _ (bufAppend_of_room b hroom), fun hfull => congrArg _ (bufAppend_of_full b hfull)⟩

/-- Settles O16: as many bytes are processed as `rx_len` counts, so the header is whole from four on. -/
theorem closingDelimiterRunsTheFrame : Obligations.ClosingDelimiterRunsTheFrame := by
  intro s
  refine ⟨exec_rxbEndFrame_of_empty, fun hpos hshort => ?runt, fun hlong => ?frame⟩
  case runt =>
    rw [exec_rxbEndFrame_of_pos hpos, processFrame_of_runt (by simpa using hshort)]
    rfl
  case frame =>
    have hlen : 4 ≤ (collectedFrame s).length := by simpa using hlong
    obtain ⟨i, hdec, hexec⟩ := exec_of_processFrame hlen (parserToHunt s)
    exact ⟨i, _, hdec, hexec, exec_rxbEndFrame_of_pos (by omega)⟩

end Sys2Proof.Proofs
end

section
/-! PROOFS. The receive path (R103 to R110): the bytes that wait at the receive port run one after the other, those of
a stuffed sequence collect the sequence, and the delimiters around it open and process the frame. -/

namespace Sys2Proof.Machine

variable {s t u : State}

/-- Bytes put before those at the receive port, the intake agent taking a turn for each. -/
def State.feed (bs : List Byte) (s : State) : State :=
  { s with rxPort := bs ++ s.rxPort, turns := List.replicate bs.length .intake ++ s.turns }

/-- What is fed last is taken first. -/
theorem feed_append (bs cs : List Byte) (s : State) : s.feed (bs ++ cs) = (s.feed cs).feed bs := by
  simp only [State.feed, List.length_append, List.replicate_add, List.append_assoc]

/-- A state in which bytes wait is the state without them, fed with them. -/
theorem eq_feed {bs rest : List Byte} {ts : List Agent} (hport : s.rxPort = bs ++ rest)
    (hturns : s.turns = List.replicate bs.length .intake ++ ts) :
    s = State.feed bs { s with rxPort := rest, turns := ts } := by
  simp only [State.feed, ← hport, ← hturns]

/-- Taking the bytes leads from one state to the other: the port and the turns of both are what comes after them. -/
def Receives (bs : List Byte) (s t : State) : Prop := runSteps bs.length (s.feed bs) = .next t

theorem Receives.nil : Receives [] s s := rfl

/-- One byte runs the row of its parser context. -/
theorem Receives.byte {b : Byte} (h : exec (decodeRxByte (rxContext s) b) s = .next t) : Receives [b] s t :=
  runSteps_succ (s := s.feed [b]) 0 ((step_intake (s := s.feed [b]) rfl rfl).trans h)

/-- Bytes taken while others wait behind them, then those others. -/
theorem Receives.append {bs cs : List Byte} (hb : Receives bs (s.feed cs) (t.feed cs)) (hc : Receives cs t u) :
    Receives (bs ++ cs) s u := by
  unfold Receives at hb hc ⊢
  rw [List.length_append, feed_append, runSteps_append _ hb, hc]

theorem rxContext_inFrame (hmode : s.rxMode = .inFrame) : rxContext s = .inFrame s.esc := by
  rw [rxContext, hmode]

/-- Inside a frame and after no escape: the context in which data bytes are taken. -/
structure Collecting (s : State) : Prop where
  mode : s.rxMode = .inFrame
  noEscape : s.esc = false

theorem Collecting.rxContext_eq (h : Collecting s) : rxContext s = .inFrame false := by
  rw [rxContext_inFrame h.mode, h.noEscape]

/-- The state with a sequence collected behind the bytes there are. -/
def collect (B : List Byte) (s : State) : State :=
  { s with rxBuf := writeBytes s.rxBuf s.rxLen.toNat B, rxLen := s.rxLen + BitVec.ofNat 13 B.length }

/-- `BufAppend` collects one byte where there is room (R106). -/
theorem bufAppend_eq_collect (b : Byte) (hroom : s.rxLen.toNat < 4099) : bufAppend b s = collect [b] s :=
  bufAppend_of_room b fun hfull => by simp [hfull] at hroom

theorem collect_rxLen_toNat {B : List Byte} (hfit : s.rxLen.toNat + B.length ≤ 4099) :
    (collect B s).rxLen.toNat = s.rxLen.toNat + B.length := by
  simp only [collect, BitVec.toNat_add, BitVec.toNat_ofNat]
  omega

theorem collect_nil (s : State) : collect [] s = s := by
  simp [collect, writeBytes]

theorem collect_cons {b : Byte} {B : List Byte} (hroom : s.rxLen.toNat < 4099) :
    collect (b :: B) s = collect B (collect [b] s) := by
  have hlen : (collect [b] s).rxLen.toNat = s.rxLen.toNat + 1 := collect_rxLen_toNat (B := [b]) hroom
  have hcount : s.rxLen + BitVec.ofNat 13 (B.length + 1) = s.rxLen + 1 + BitVec.ofNat 13 B.length := by
    rw [BitVec.ofNat_add]
    ac_rfl
  calc collect (b :: B) s
      = { s with rxBuf := writeBytes (collect [b] s).rxBuf (s.rxLen.toNat + 1) B,
                 rxLen := s.rxLen + BitVec.ofNat 13 (B.length + 1) } := rfl
    _ = collect B (collect [b] s) := by rw [hcount, ← hlen]; rfl

/-- The two bytes of an escape append the byte they stand for (R104, R105). -/
theorem receives_escape {b c : Byte} (hs : Collecting s) (hroom : s.rxLen.toNat < 4099)
    (hc : ∀ x : State, exec (decodeRxByte (.inFrame true) c) x = .next (bufAppend b { x with esc := false })) :
    Receives [0xDB, c] s (collect [b] s) := by
  have hflag : Receives [0xDB] (s.feed [c]) (State.feed [c] { s with esc := true }) := by
    have hcontext : rxContext (s.feed [c]) = .inFrame false := hs.rxContext_eq
    exact .byte (by rw [hcontext]; rfl)
  have hresolve : Receives [c] { s with esc := true } (collect [b] s) := by
    refine .byte ?_
    rw [rxContext_inFrame (s := { s with esc := true }) hs.mode, hc, ← hs.noEscape, bufAppend_eq_collect b hroom]
  exact hflag.append hresolve

/-- What a data byte is sent as collects that byte: the receiver undoes `encode_byte` (R100, R104 to R108). -/
theorem receives_encodeByte (b : Byte) (hs : Collecting s) (hroom : s.rxLen.toNat < 4099) :
    Receives (encodeByte b) s (collect [b] s) := by
  rcases encodeByte_cases b with ⟨rfl, e⟩ | ⟨rfl, e⟩ | ⟨hend, hesc, e⟩ <;> rw [e]
  · exact receives_escape hs hroom fun _ => rfl
  · exact receives_escape hs hroom fun _ => rfl
  · have hrow : decodeRxByte (.inFrame false) b = .rxbData b := (if_neg hesc).trans (if_neg hend)
    refine .byte ?_
    rw [hs.rxContext_eq, hrow, exec_rxbData, bufAppend_eq_collect b hroom]

/-- A stuffed sequence that fits collects the sequence: the receiver undoes `Stuff` (R101, R110). -/
theorem receives_stuff (B : List Byte) (hs : Collecting s) (hfit : s.rxLen.toNat + B.length ≤ 4099) :
    Receives (stuff B) s (collect B s) := by
  induction B generalizing s with
  | nil => rw [collect_nil]; exact .nil
  | cons b B ih =>
    rw [List.length_cons] at hfit
    have hroom : s.rxLen.toNat < 4099 := by omega
    have hnext : (collect [b] s).rxLen.toNat = s.rxLen.toNat + 1 := collect_rxLen_toNat (B := [b]) hroom
    have hbyte : Receives (encodeByte b) (s.feed (stuff B)) ((collect [b] s).feed (stuff B)) :=
      receives_encodeByte b ⟨hs.mode, hs.noEscape⟩ hroom
    rw [collect_cons hroom]
    exact hbyte.append (ih ⟨hs.mode, hs.noEscape⟩ (by omega))

/-- A delimiter in HUNT opens a frame (R103). -/
theorem receives_openingDelimiter (hmode : s.rxMode = .hunt) : Receives [0xC0] s (openFrame s) := by
  have hcontext : rxContext s = .hunt := by rw [rxContext, hmode]
  exact .byte (by rw [hcontext]; rfl)

/-- The closing delimiter of a frame that is not empty processes what is collected (R107). -/
theorem receives_closingDelimiter (hs : Collecting s) (hpos : 0 < s.rxLen.toNat) :
    Receives [0xC0] s (processFrame (collectedFrame s) (parserToHunt s)) := by
  refine .byte ?_
  rw [hs.rxContext_eq]
  exact exec_rxbEndFrame_of_pos hpos

/-- The bytes a frame opens with and collects are the frame at its close (R34). -/
theorem collectedFrame_collect_openFrame {B : List Byte} (hfit : B.length ≤ 4099) (hwf : Memory.wf s.rxBuf = true) :
    collectedFrame (collect B (openFrame s)) = B := by
  have hlen : (collect B (openFrame s)).rxLen.toNat = B.length := by
    rw [collect_rxLen_toNat (by simpa [openFrame] using hfit)]
    simp [openFrame]
  rw [collectedFrame, hlen]
  exact readBytes_writeBytes (a := 0) (by simpa using hfit) hwf

/-- A frame on the wire, taken in HUNT, is processed as it was before the stuffing (R110). -/
theorem receives_wireFrame {B : List Byte} (hpos : 1 ≤ B.length) (hfit : B.length ≤ 4099) (hmode : s.rxMode = .hunt)
    (hwf : Memory.wf s.rxBuf = true) :
    Receives (wireFrame B) s (processFrame B (parserToHunt (collect B (openFrame s)))) := by
  have hopen : Receives [0xC0] (s.feed (stuff B ++ [0xC0])) ((openFrame s).feed (stuff B ++ [0xC0])) :=
    receives_openingDelimiter hmode
  have hcollect : Receives (stuff B) ((openFrame s).feed [0xC0]) ((collect B (openFrame s)).feed [0xC0]) :=
    receives_stuff B ⟨rfl, rfl⟩ (by simpa [State.feed, openFrame] using hfit)
  have hclose :
      Receives [0xC0] (collect B (openFrame s)) (processFrame B (parserToHunt (collect B (openFrame s)))) := by
    have hframe : collectedFrame (collect B (openFrame s)) = B := collectedFrame_collect_openFrame hfit hwf
    have hsome : 0 < (collect B (openFrame s)).rxLen.toNat := by
      rw [← collectedFrame_length, hframe]
      exact hpos
    have hend := receives_closingDelimiter (s := collect B (openFrame s)) ⟨rfl, rfl⟩ hsome
    rwa [hframe] at hend
  rw [wireFrame, List.append_assoc]
  exact hopen.append (hcollect.append hclose)

end Sys2Proof.Machine

namespace Sys2Proof.Proofs

open Sys2Proof.Machine

/-- Settles O18: the receiver undoes the stuffing, by induction on the sequence (`receives_stuff`), and the closing
delimiter processes what it collected. -/
theorem stuffedFrameIsProcessedOnce : Obligations.StuffedFrameIsProcessedOnce := by
  intro B rest ts s hpos hfit hmode hwf hport hturns
  have hrun := receives_wireFrame (s := { s with rxPort := rest, turns := ts }) hpos hfit hmode hwf
  rw [Receives, ← eq_feed hport hturns] at hrun
  exact hrun

end Sys2Proof.Proofs
end

section
/-! PROOFS. The header codec and its checksum (R120 to R125): the checksum in integer arithmetic and what it detects,
the bytes of a header as integers, and the header that the builder makes. -/

namespace Sys2Proof.Machine

/-- The complement of the sum, in integers (R120). -/
theorem cks_toNat (h0 h1 h2 : Byte) : (cks h0 h1 h2).toNat = 255 - (h0.toNat + h1.toNat + h2.toNat) % 256 := by
  simp only [cks, BitVec.toNat_not, BitVec.toNat_add]
  omega

/-- Checksums agree where the sums of the bytes do. -/
theorem cks_eq_iff {h0 h1 h2 x0 x1 x2 : Byte} : cks x0 x1 x2 = cks h0 h1 h2 ↔ x0 + x1 + x2 = h0 + h1 + h2 :=
  BitVec.not_inj

/-- Each byte can be recovered from the sum and the other two (R122). -/
theorem cks_left_inj {h0 h1 h2 x : Byte} : cks x h1 h2 = cks h0 h1 h2 ↔ x = h0 := by
  rw [cks_eq_iff, BitVec.add_left_inj, BitVec.add_left_inj]

theorem cks_middle_inj {h0 h1 h2 x : Byte} : cks h0 x h2 = cks h0 h1 h2 ↔ x = h1 := by
  rw [cks_eq_iff, BitVec.add_left_inj, BitVec.add_right_inj]

theorem cks_right_inj {h0 h1 h2 x : Byte} : cks h0 h1 x = cks h0 h1 h2 ↔ x = h2 := by
  rw [cks_eq_iff, BitVec.add_right_inj]

/-- Fields side by side are digits of one number: the high field has the weight of the low field's width. -/
theorem append_toNat {m n : Nat} (x : BitVec m) (y : BitVec n) : (x ++ y).toNat = x.toNat * 2 ^ n + y.toNat := by
  rw [BitVec.toNat_append, ← Nat.shiftLeft_add_eq_or_of_lt y.isLt, Nat.shiftLeft_eq]

theorem headerByte0_toNat (h : FrameHeader) :
    (headerByte0 h).toNat = h.reliable.toNat * 128 + h.crcPresent.toNat * 64 + h.ack.toNat * 8 + h.seq.toNat := by
  simp only [headerByte0, append_toNat, BitVec.toNat_ofBool]
  omega

theorem headerByte1_toNat (t : PacketType) (h : FrameHeader) :
    (headerByte1 t h).toNat = (h.length.toNat % 16) * 16 + t.toNat := by
  simp only [headerByte1, append_toNat, BitVec.extractLsb'_toNat, Nat.shiftRight_zero, Nat.reducePow]

theorem headerByte2_toNat (h : FrameHeader) : (headerByte2 h).toNat = h.length.toNat / 16 := by
  have hlen : h.length.toNat < 4096 := h.length.isLt
  simp only [headerByte2, BitVec.extractLsb'_toNat, Nat.shiftRight_eq_div_pow]
  omega

/-- Bit 6 of byte 0 carries `crc_present` (R72): the header parses back from its bytes. -/
theorem headerByte0_crcPresent (h : FrameHeader) : (headerByte0 h).getLsbD 6 = h.crcPresent :=
  congrArg FrameHeader.crcPresent (headerOf_headerBytes 0 h)

/-- The builder's checksum is that of the bytes it makes: no header byte but the last depends on the checksum. -/
theorem builtHeader_checksum (t : PacketType) (r : Bool) (s a : Seq) (len : Length) :
    cks (headerByte0 (builtHeader t r s a len)) (headerByte1 t (builtHeader t r s a len))
      (headerByte2 (builtHeader t r s a len)) = (builtHeader t r s a len).checksum := rfl

end Sys2Proof.Machine

namespace Sys2Proof.Proofs

open Sys2Proof.Machine

/-- Settles O7. -/
theorem checksumComplementsTheSum : Obligations.ChecksumComplementsTheSum := cks_toNat

/-- Settles O8: the bytes are those of the built header, whose `crc_present` is 0. -/
theorem headerBuilderMakesTheFourBytes : Obligations.HeaderBuilderMakesTheFourBytes := by
  intro t r s a len
  exact ⟨headerByte0 (builtHeader t r s a len), headerByte1 t (builtHeader t r s a len),
    headerByte2 (builtHeader t r s a len), rfl, headerByte0_toNat _, headerByte1_toNat t _, headerByte2_toNat _⟩

/-- Settles O9: the header parsed back is the one that was built. -/
theorem builtHeaderParsesBack : Obligations.BuiltHeaderParsesBack := by
  intro t r s a len p hlen
  have hagrees : lengthAgrees (builtHeader t r s a len) p = true := beq_iff_eq.mpr hlen
  exact ⟨builtHeader t r s a len, decodeFrame_headerBytes t _ p, rfl, rfl, rfl, rfl, rfl,
    builtHeader_checksum t r s a len, hagrees⟩

/-- Settles O10: a byte of the first three moves the sum, and the fourth is what the checksum is compared with. -/
theorem singleByteCorruptionIsCaught : Obligations.SingleByteCorruptionIsCaught := by
  rintro h0 h1 h2 _ x rfl
  exact ⟨mt cks_left_inj.mp, mt cks_middle_inj.mp, mt cks_right_inj.mp, Ne.symm⟩

end Sys2Proof.Proofs
end

section
/-! PROOFS. `crc_present` is ignored on receive (R128): no check and no operation of the pipeline reads it. Only the
frame as received, which a payload type queues, holds the bit and the checksum that goes with it. -/

namespace Sys2Proof.Machine

variable {q : List (List Byte)} {f f' : List Byte} {s u v : State}

/-- From a FIFO `q`, the state `v` is `u`, or it is `u` with `f'` in the one slot in which `u` has queued `f`. -/
inductive SameButSlot (q : List (List Byte)) (f f' : List Byte) (u : State) : State → Prop where
  | same : SameButSlot q f f' u u
  | slot (hfifo : u.fifo = q ++ [f]) : SameButSlot q f f' u { u with fifo := q ++ [f'] }

theorem fifoPush_sameButSlot (f f' : List Byte) (s : State) :
    SameButSlot s.fifo f f' (fifoPush f s) (fifoPush f' s) := by
  rcases fifoPush_cases f s with ⟨hfull, e⟩ | ⟨hroom, e⟩
  · have e' : fifoPush f' s = fifoPush f s := (if_pos hfull).trans e.symm
    exact e' ▸ .same
  · have e' : fifoPush f' s = { fifoPush f s with fifo := s.fifo ++ [f'] } := by rw [e]; exact if_neg hroom
    exact e' ▸ .slot (congrArg State.fifo e)

/-- The ACK does not depend on the FIFO and leaves it as it is (R149). -/
theorem flushAck_with_fifo (l : List (List Byte)) (s : State) :
    flushAck { s with fifo := l } = { flushAck s with fifo := l } := by
  simp only [flushAck_eq]
  split <;> rfl

theorem flushAck_fifo (s : State) : (flushAck s).fifo = s.fifo := by
  rw [flushAck_eq]
  split <;> rfl

theorem SameButSlot.flushAck (h : SameButSlot q f f' u v) :
    SameButSlot q f f' (Machine.flushAck u) (Machine.flushAck v) := by
  cases h with
  | same => exact .same
  | slot hfifo =>
    rw [flushAck_with_fifo (q ++ [f']) u]
    exact .slot ((flushAck_fifo u).trans hfifo)

section pipeline

variable {d d' : State → State} {t : PacketType} {h h' : FrameHeader} {p : List Byte}

theorem sequenceFrame_sameButSlot (h : FrameHeader)
    (hd : ∀ u, SameButSlot u.fifo f f' (d u) (d' u)) (s : State) :
    SameButSlot s.fifo f f' (sequenceFrame h d s) (sequenceFrame h d' s) := by
  unfold sequenceFrame
  split
  · split
    · exact hd (recordAck h (acceptInOrder s))
    · exact .same
  · exact hd (recordAck h s)

/-- Two dispatches that differ in the slot give two pipelines that do. -/
theorem pipeline_sameButSlot (t : PacketType) (h : FrameHeader) (p : List Byte)
    (hd : ∀ u, SameButSlot u.fifo f f' (d u) (d' u)) (s : State) :
    SameButSlot s.fifo f f' (pipeline t h p d s) (pipeline t h p d' s) := by
  unfold pipeline
  split
  · exact .same
  split
  · exact .same
  split
  · exact .same
  · exact (sequenceFrame_sameButSlot h hd s).flushAck

/-- The checksum verified, the pipeline reads neither `crc_present` nor the checksum (R128). -/
theorem pipeline_crcPresent (hv : headerVerifies t h = true) (hv' : headerVerifies t h' = true)
    (hflip : h' = { h with crcPresent := !h.crcPresent, checksum := h'.checksum }) (d : State → State) (s : State) :
    pipeline t h' p d s = pipeline t h p d s := by
  have hlength : lengthDrops h' p = lengthDrops h p := by rw [hflip]; rfl
  have hsequence : sequenceFrame h' d s = sequenceFrame h d s := by rw [hflip]; rfl
  simp only [pipeline, hv, hv', hlength, hsequence]

end pipeline

/-- The dispatch of a packet type depends on the header only by the frame as received, which it may queue (R152,
R190). -/
theorem runFrame_dispatch (t : PacketType) (p : List Byte) : ∃ D : List Byte → State → State,
    (∀ h s, runFrame (packetClass t) h p s = pipeline t h p (D (headerBytes t h ++ p)) s) ∧
    ∀ f f' s, SameButSlot s.fifo f f' (D f s) (D f' s) := by
  have hpush := fifoPush_sameButSlot
  have hsilent (d : State → State) (f f' : List Byte) (s : State) : SameButSlot s.fifo f f' (d s) (d s) := .same
  rcases packetClass_cases t with ⟨rfl, e⟩ | ⟨rfl, e⟩ | ⟨rfl, e⟩ | ⟨rfl, e⟩ | ⟨rfl, e⟩ | ⟨rfl, e⟩ | ⟨rfl, e⟩ | ⟨-, e⟩ <;>
    rw [e]
  · exact ⟨fun _ s => s, fun _ _ => rfl, hsilent _⟩
  · exact ⟨fun _ s => s, fun _ _ => rfl, hsilent _⟩
  · exact ⟨fifoPush, fun _ _ => rfl, hpush⟩
  · exact ⟨fifoPush, fun _ _ => rfl, hpush⟩
  · exact ⟨fifoPush, fun _ _ => rfl, hpush⟩
  · exact ⟨fifoPush, fun _ _ => rfl, hpush⟩
  · exact ⟨fun _ => linkControl p, fun _ _ => rfl, hsilent _⟩
  · exact ⟨fun _ s => s, fun _ _ => rfl, hsilent _⟩

/-- Two frames that verify and differ in `crc_present` run alike but for the slot (R128). -/
theorem runFrame_crcPresent {t : PacketType} {h h' : FrameHeader} (hv : headerVerifies t h = true)
    (hv' : headerVerifies t h' = true)
    (hflip : h' = { h with crcPresent := !h.crcPresent, checksum := h'.checksum }) (p : List Byte) (s : State) :
    SameButSlot s.fifo (headerBytes t h ++ p) (headerBytes t h' ++ p)
      (runFrame (packetClass t) h p s) (runFrame (packetClass t) h' p s) := by
  obtain ⟨D, hrun, hslot⟩ := runFrame_dispatch t p
  rw [hrun h, hrun h', pipeline_crcPresent hv hv' hflip]
  exact pipeline_sameButSlot t h p (hslot _ _) s

end Sys2Proof.Machine

namespace Sys2Proof.Proofs

open Sys2Proof.Machine

/-- Settles O29: the bit as built, and the two frames run alike but for the slot. -/
theorem crcPresentIsZeroAndIgnored : Obligations.CrcPresentIsZeroAndIgnored := by
  refine ⟨fun t r s a len => headerByte0_crcPresent (builtHeader t r s a len), ?ignored⟩
  case ignored =>
    intro t h h' p s u hc hc' hflip hexec
    have hu : runFrame (packetClass t) h p s = u := Host.Outcome.next.inj ((exec_frameInstr _ h p s).symm.trans hexec)
    have halike := runFrame_crcPresent (beq_iff_eq.mpr hc) (beq_iff_eq.mpr hc') hflip p s
    rw [hu] at halike
    rw [exec_frameInstr]
    generalize runFrame (packetClass t) h' p s = v at halike ⊢
    cases halike with
    | same => exact .inl rfl
    | slot hfifo => exact .inr ⟨hfifo, rfl⟩

end Sys2Proof.Proofs
end

section
/-! PROOFS. The registers that no rule reads to decide anything: `rx_ack` and `tx_win`, which drive no retransmission
and no send window (R26, R27, R150, R151), and `sleep_state`, which gates nothing (R23, R243). -/

namespace Sys2Proof.Machine

/-- How much of each passive register is kept; what is hidden once stays hidden. -/
structure Mask where
  sleep : SleepState → SleepState
  ack : Seq → Seq
  win : Seq → Seq
  sleep_idem : ∀ x, sleep (sleep x) = sleep x
  ack_idem : ∀ x, ack (ack x) = ack x
  win_idem : ∀ x, win (win x) = win x

/-- The state with its passive registers seen through the mask. -/
def State.masked (m : Mask) (s : State) : State :=
  { s with sleepState := m.sleep s.sleepState, rxAck := m.ack s.rxAck, txWin := m.win s.txWin }

/-- What an operation does, seen through the mask, does not depend on what the mask hides. -/
def MaskBlind (m : Mask) (f : State → State) : Prop := ∀ s, (f (s.masked m)).masked m = (f s).masked m

variable {m : Mask} {f g : State → State} {c : State → Prop}

@[simp] theorem masked_masked (m : Mask) (s : State) : (s.masked m).masked m = s.masked m := by
  simp only [State.masked, m.sleep_idem, m.ack_idem, m.win_idem]

namespace MaskBlind

/-- An operation that leaves the passive registers alone and does not read them. -/
theorem of_comm (hf : ∀ s, f (s.masked m) = (f s).masked m) : MaskBlind m f := by
  intro s
  rw [hf, masked_masked]

theorem id : MaskBlind m fun s => s := of_comm fun _ => rfl

theorem comp (hf : MaskBlind m f) (hg : MaskBlind m g) : MaskBlind m fun s => f (g s) := by
  intro s
  calc (f (g (s.masked m))).masked m
      = (f ((g (s.masked m)).masked m)).masked m := (hf _).symm
    _ = (f ((g s).masked m)).masked m := by rw [hg]
    _ = (f (g s)).masked m := hf _

/-- A choice that the passive registers have no part in. -/
theorem ite [DecidablePred c] (hc : ∀ s, c (s.masked m) ↔ c s) (hf : MaskBlind m f) (hg : MaskBlind m g) :
    MaskBlind m fun s => if c s then f s else g s := by
  intro s
  by_cases h : c s
  · simp only [if_pos h, if_pos ((hc s).mpr h), hf s]
  · simp only [if_neg h, if_neg (mt (hc s).mp h), hg s]

end MaskBlind

/-! The operations that transmit, log, collect and queue. -/

theorem maskBlind_logRecord (e : EventCode) : MaskBlind m (logRecord e) := .of_comm fun _ => rfl

theorem maskBlind_txFrame (t : PacketType) (p : List Byte) : MaskBlind m (txFrame t p) :=
  .of_comm fun s => by rw [txFrame_eq, txFrame_eq]; rfl

theorem maskBlind_sendLc (p : List Byte) : MaskBlind m (sendLc p) := maskBlind_txFrame linkControlType p

theorem maskBlind_bufAppend (v : Byte) : MaskBlind m (bufAppend v) :=
  .ite (fun _ => .rfl) (.of_comm fun _ => rfl) (.of_comm fun _ => rfl)

theorem maskBlind_fifoPush (f : List Byte) : MaskBlind m (fifoPush f) :=
  .ite (fun _ => .rfl) (maskBlind_logRecord _) (.of_comm fun _ => rfl)

theorem maskBlind_dropOutOfOrder : MaskBlind m dropOutOfOrder :=
  .ite (fun _ => .rfl) (.of_comm fun s => by simp only [sendLc_eq]; rfl) (.of_comm fun _ => rfl)

theorem maskBlind_flushAck : MaskBlind m flushAck :=
  .ite (fun _ => .rfl) (.of_comm fun s => by rw [txFrame_eq, txFrame_eq]; rfl) .id

/-! The operations that write a passive register: each value written is a constant, is taken from the frame, or is
the register's own. -/

theorem maskBlind_resetIfActive : MaskBlind m resetIfActive := by
  have hreset : MaskBlind m peerReset := by
    intro s
    simp only [peerReset, State.masked, m.sleep_idem, m.win_idem]
  exact .ite (fun _ => .rfl) hreset .id

theorem masked_adoptedWindow (m : Mask) (rest : List Byte) (w : Seq) :
    m.win (adoptedWindow rest (m.win w)) = m.win (adoptedWindow rest w) := by
  unfold adoptedWindow
  split
  · exact m.win_idem w
  · split
    · exact m.win_idem w
    · rfl

theorem maskBlind_adoptWindow (rest : List Byte) :
    MaskBlind m fun s => { s with txWin := adoptedWindow rest s.txWin, linkState := .active } := by
  intro s
  simp only [State.masked, masked_adoptedWindow, m.sleep_idem, m.ack_idem]

theorem maskBlind_recordAck (h : FrameHeader) : MaskBlind m (recordAck h) := by
  intro s
  simp only [recordAck, State.masked, m.sleep_idem, m.win_idem]

theorem maskBlind_setSleep (x : SleepState) : MaskBlind m fun s => { s with sleepState := x } := by
  intro s
  simp only [State.masked, m.ack_idem, m.win_idem]

/-! Link control, the frame pipeline and the commands. -/

theorem maskBlind_linkControl (p : List Byte) : MaskBlind m (linkControl p) := by
  have hinit : MaskBlind m fun s => { s with linkState := .init } := .of_comm fun _ => rfl
  have hfire : MaskBlind m fireInit := .ite (fun _ => .rfl) .id (.of_comm fun _ => rfl)
  unfold linkControl
  cases lcMessage p with
  | syncReq => exact (maskBlind_sendLc _).comp maskBlind_resetIfActive
  | syncResp => exact (maskBlind_sendLc _).comp (hinit.comp maskBlind_resetIfActive)
  | configReq => exact (maskBlind_sendLc _).comp (maskBlind_sendLc _)
  | configResp rest => exact hfire.comp (maskBlind_adoptWindow rest)
  | sleepReq => exact maskBlind_setSleep _
  | wokenReq => exact maskBlind_setSleep _
  | wakeupReq => exact (maskBlind_setSleep _).comp (maskBlind_sendLc _)
  | unknown => exact maskBlind_logRecord _

theorem maskBlind_sequenceFrame (h : FrameHeader) (hf : MaskBlind m f) : MaskBlind m (sequenceFrame h f) := by
  have haccept : MaskBlind m acceptInOrder := .of_comm fun _ => rfl
  exact .ite (fun _ => .rfl)
    (.ite (fun _ => .rfl) (hf.comp ((maskBlind_recordAck h).comp haccept)) maskBlind_dropOutOfOrder)
    (hf.comp (maskBlind_recordAck h))

theorem maskBlind_pipeline (t : PacketType) (h : FrameHeader) (p : List Byte) (hf : MaskBlind m f) :
    MaskBlind m (pipeline t h p f) :=
  .ite (fun _ => .rfl) (maskBlind_logRecord _) <|
    .ite (fun _ => .rfl) (maskBlind_logRecord _) <|
      .ite (fun _ => .rfl) (maskBlind_logRecord _) <|
        maskBlind_flushAck.comp (maskBlind_sequenceFrame h hf)

theorem maskBlind_runFrame (k : PacketClass) (h : FrameHeader) (p : List Byte) : MaskBlind m (runFrame k h p) := by
  cases k with
  | ack | command | reserved => exact maskBlind_pipeline _ h p .id
  | acl | sco | event | iso => exact maskBlind_pipeline _ h p (maskBlind_fifoPush _)
  | linkControl => exact maskBlind_pipeline _ h p (maskBlind_linkControl p)

theorem maskBlind_closeFrame : MaskBlind m closeFrame := by
  have hprocess (l : List Byte) : MaskBlind m (processFrame l) := by
    unfold processFrame
    split
    · exact maskBlind_runFrame _ _ _
    · exact maskBlind_logRecord _
  exact .ite (fun _ => .rfl) .id fun s => hprocess (collectedFrame s) (parserToHunt s)

theorem maskBlind_protocolReset : MaskBlind m protocolReset := fun _ => rfl

theorem maskBlind_startEngine : MaskBlind m startEngine :=
  (maskBlind_txFrame _ _).comp (g := fun s => { protocolReset s with running := true }) fun _ => rfl

theorem maskBlind_sendFrame (t : PacketType) (p : List Byte) : MaskBlind m (sendFrame t p) :=
  .ite (fun _ => .rfl) (.of_comm fun _ => rfl) <|
    (maskBlind_txFrame t p).comp (g := markEarlySend t) (.ite (fun _ => .rfl) (.of_comm fun _ => rfl) .id)

theorem maskBlind_popFrame : MaskBlind m popFrame := by
  refine .of_comm fun s => ?_
  cases hfifo : s.fifo <;> simp [popFrame, State.masked, hfifo]

/-! What a turn runs: the row of a byte, the row of a command, and the step. -/

/-- An instruction whose meaning is an operation that does not depend on what the mask hides. -/
def MaskBlindInstr (m : Mask) (i : Instr) : Prop := ∃ f, MaskBlind m f ∧ ∀ s, exec i s = .next (f s)

theorem maskBlindInstr_cmdPop : MaskBlindInstr m .cmdPop :=
  ⟨_, .ite (g := holdPop) (fun _ => .rfl) maskBlind_popFrame (.of_comm fun _ => rfl), fun _ => rfl⟩

theorem maskBlindInstr_decodeRxByte (ctx : RxContext) (b : Byte) : MaskBlindInstr m (decodeRxByte ctx b) := by
  have hstore (v : Byte) : MaskBlind m fun s => bufAppend v { s with esc := false } :=
    (maskBlind_bufAppend v).comp (g := fun s => { s with esc := false }) (.of_comm fun _ => rfl)
  unfold decodeRxByte
  split
  · split
    · exact ⟨openFrame, .of_comm fun _ => rfl, fun _ => rfl⟩
    · exact ⟨_, .id, fun _ => rfl⟩
  · split
    · exact ⟨_, hstore _, fun _ => rfl⟩
    split
    · exact ⟨_, hstore _, fun _ => rfl⟩
    · exact ⟨badEscape, .of_comm fun _ => rfl, fun _ => rfl⟩
  · split
    · exact ⟨fun s => { s with esc := true }, .of_comm fun _ => rfl, fun _ => rfl⟩
    split
    · exact ⟨_, maskBlind_closeFrame, fun _ => rfl⟩
    · exact ⟨_, maskBlind_bufAppend b, fun _ => rfl⟩

theorem maskBlindInstr_decodeCommand (k : Command) : MaskBlindInstr m (decodeCommand k) := by
  have hrefused : MaskBlind m fun s => { s with refused := true } := .of_comm fun _ => rfl
  unfold decodeCommand
  split
  · exact ⟨resetEngine, fun _ => rfl, fun _ => rfl⟩
  split
  · exact ⟨_, maskBlind_startEngine, fun _ => rfl⟩
  split
  · exact ⟨stopEngine, .of_comm fun _ => rfl, fun _ => rfl⟩
  split
  · exact ⟨_, maskBlind_sendFrame _ _, fun _ => rfl⟩
  split
  · exact maskBlindInstr_cmdPop
  split
  · exact ⟨_, hrefused, fun _ => rfl⟩
  split
  · exact ⟨_, hrefused, fun _ => rfl⟩
  · exact ⟨_, hrefused, fun _ => rfl⟩

/-- The turns, the ports and the parser decide what a turn runs. -/
theorem fetch_masked (m : Mask) (s : State) :
    fetch (s.masked m) = ((fetch s).1, (fetch s).2.masked m) ∧ ∀ i ∈ (fetch s).1, MaskBlindInstr m i := by
  unfold fetch
  cases hturns : s.turns with
  | nil => simp [State.masked, hturns]
  | cons agent ts =>
    cases agent with
    | intake =>
      cases hport : s.rxPort <;>
        simp [State.masked, hturns, fetchByte, hport, rxContext, maskBlindInstr_decodeRxByte]
    | host =>
      cases hport : s.cmdPort <;> simp [State.masked, hturns, fetchCommand, hport, maskBlindInstr_decodeCommand]
    | consumer =>
      cases hport : s.popRequests <;> simp [State.masked, hturns, fetchPop, hport, maskBlindInstr_cmdPop]

/-- What a step does, seen through the mask, does not depend on what the mask hides. -/
theorem step_masked {s t : State} (m : Mask) (h : step s = .next t) :
    ∃ u, step (s.masked m) = .next u ∧ u.masked m = t.masked m := by
  obtain ⟨hsame, hblind⟩ := fetch_masked m s
  unfold step at h ⊢
  rw [hsame]
  generalize fetch s = taken at h hblind ⊢
  obtain ⟨i, u⟩ := taken
  cases i with
  | none =>
    cases h
    exact ⟨_, rfl, masked_masked m t⟩
  | some i =>
    obtain ⟨f, hf, hexec⟩ := hblind i rfl
    cases (hexec u).symm.trans h
    exact ⟨_, hexec _, hf u⟩

/-- From two states that look alike through the mask, a step leaves two that do. -/
theorem exists_step_of_masked_eq {s s' t : State} (hsame : s'.masked m = s.masked m) (h : step s = .next t) :
    ∃ t', step s' = .next t' ∧ t'.masked m = t.masked m := by
  obtain ⟨t', h'⟩ := exists_step_next s'
  obtain ⟨u, hu, hut⟩ := step_masked m h
  obtain ⟨u', hu', hut'⟩ := step_masked m h'
  have huu : u' = u := by
    rw [hsame] at hu'
    exact Host.Outcome.next.inj (hu'.symm.trans hu)
  exact ⟨t', h', by rw [← hut', huu, hut]⟩

/-- The mask that hides `rx_ack` and `tx_win` and keeps `sleep_state`. -/
def maskAckAndWindow : Mask where
  sleep x := x
  ack _ := 0
  win _ := 0
  sleep_idem _ := rfl
  ack_idem _ := rfl
  win_idem _ := rfl

theorem eq_with_of_maskAckAndWindow {s t : State} (h : t.masked maskAckAndWindow = s.masked maskAckAndWindow) :
    t = { s with txWin := t.txWin, rxAck := t.rxAck } := by
  calc t = { t.masked maskAckAndWindow with txWin := t.txWin, rxAck := t.rxAck } := rfl
    _ = { s.masked maskAckAndWindow with txWin := t.txWin, rxAck := t.rxAck } := by rw [h]
    _ = { s with txWin := t.txWin, rxAck := t.rxAck } := rfl

end Sys2Proof.Machine

namespace Sys2Proof.Proofs

open Sys2Proof.Machine

/-- Settles O55: a mask that hides the two registers sees no difference between the two steps. -/
theorem windowAndRecordedAckDriveNothing : Obligations.WindowAndRecordedAckDriveNothing := by
  intro s t w a hstep
  obtain ⟨t', hstep', hsame⟩ :=
    exists_step_of_masked_eq (m := maskAckAndWindow) (s := s) (s' := { s with txWin := w, rxAck := a }) rfl hstep
  exact ⟨t'.txWin, t'.rxAck, hstep'.trans (congrArg Host.Outcome.next (eq_with_of_maskAckAndWindow hsame))⟩

end Sys2Proof.Proofs
end

section
/-! PROOFS. The frame pipeline's checks and its out-of-order drop (R140, R142, R143, R145, R146, R148, R149): what a
frame of any packet type does, and runs of three frames (R153, R154). -/

namespace Sys2Proof.Machine

variable {t : PacketType} {h : FrameHeader} {p : List Byte} {s : State}

/-! A frame that a check drops leaves one record (R142, R143, R148). -/

theorem pipeline_of_not_verifies (hv : headerVerifies t h = false) (d : State → State) :
    pipeline t h p d s = logRecord .wChecksum s := by
  simp [pipeline, hv]

theorem pipeline_of_lengthDrops (hv : headerVerifies t h = true) (hl : lengthDrops h p = true) (d : State → State) :
    pipeline t h p d s = logRecord .eLength s := by
  simp [pipeline, hv, hl]

theorem pipeline_of_gateDrops (hv : headerVerifies t h = true) (hl : lengthDrops h p = false)
    (hg : gateDrops t s = true) (d : State → State) : pipeline t h p d s = logRecord .wNotActive s := by
  simp [pipeline, hv, hl, hg]

theorem headerVerifies_iff :
    headerVerifies t h = true ↔ cks (headerByte0 h) (headerByte1 t h) (headerByte2 h) = h.checksum := beq_iff_eq

theorem lengthDrops_iff :
    lengthDrops h p = true ↔ p.length ≠ h.length.toNat ∧ Config.rxLengthPolicy = .exact := by
  simp [lengthDrops, lengthAgrees]

theorem gateDrops_iff : gateDrops t s = true ↔ s.linkState ≠ .active ∧ t ≠ 15 := by
  simp [gateDrops]

theorem pipeline_of_exact (hc : cks (headerByte0 h) (headerByte1 t h) (headerByte2 h) = h.checksum)
    (hlen : p.length ≠ h.length.toNat) (hpol : Config.rxLengthPolicy = .exact) (d : State → State) :
    pipeline t h p d s = logRecord .eLength s :=
  pipeline_of_lengthDrops (headerVerifies_iff.mpr hc) (lengthDrops_iff.mpr ⟨hlen, hpol⟩) d

/-- A frame of a payload type is queued by its pipeline (R152, R190). -/
theorem exec_of_mem_payloadFrames {e : PacketType × (FrameHeader → List Byte → Instr)} (he : e ∈ payloadFrames) :
    exec (e.2 h p) s = .next (pipeline e.1 h p (fifoPush (headerBytes e.1 h ++ p)) s) := by
  simp only [payloadFrames, List.mem_cons, List.not_mem_nil, or_false] at he
  rcases he with rfl | rfl | rfl | rfl <;> rfl

/-- What a frame of any type runs, the dispatch left open: enough for the frames that are dropped before it (R140). -/
theorem exec_frame_pipeline (t : PacketType) (h : FrameHeader) (p : List Byte) (s : State) :
    ∃ d : State → State, exec (frameInstr (packetClass t) h p) s = .next (pipeline t h p d s) := by
  obtain ⟨d, e, -⟩ := runFrame_pipeline t h p s
  exact ⟨d, by rw [exec_frameInstr, e]⟩

/-! Out of order (R145, R146, R149). -/

/-- A frame is out of order: reliable, and not the one the receive window names (R144, R145). -/
structure OutOfOrder (h : FrameHeader) (s : State) : Prop where
  reliable : h.reliable = true
  seq_ne : h.seq ≠ s.txAck

/-- The end of a counted out-of-order drop: the ACK carries the unchanged `tx_ack`. -/
def countedDrop (s : State) : State := { s with
  oooCount := s.oooCount + 1, ackOwed := false, events := s.events ++ [.wOutOfOrder],
  txStream := s.txStream ++ wire 0 false 0 s.txAck [] }

/-- The end of an out-of-order drop at the threshold: a SYNC_REQ goes out before the ACK. -/
def resyncDrop (s : State) : State := { s with
  oooCount := 0, ackOwed := false, events := s.events ++ [.wOutOfOrder, .iResync],
  txStream := s.txStream ++ wire 15 false 0 s.txAck [0x01, 0x7E] ++ wire 0 false 0 s.txAck [] }

theorem resyncDue_iff : resyncDue s = true ↔ 3 ≤ s.oooCount.toNat + 1 := decide_eq_true_iff

theorem flushAck_dropOutOfOrder_of_below (hcount : s.oooCount.toNat + 1 < 3) :
    flushAck (dropOutOfOrder s) = countedDrop s := by
  rcases dropOutOfOrder_cases s with ⟨hdue, -⟩ | ⟨-, e⟩
  · exact absurd (resyncDue_iff.mp hdue) (by omega)
  · rw [e, flushAck_eq]
    rfl

theorem flushAck_dropOutOfOrder_of_threshold (hcount : 3 ≤ s.oooCount.toNat + 1) :
    flushAck (dropOutOfOrder s) = resyncDrop s := by
  rcases dropOutOfOrder_cases s with ⟨-, e⟩ | ⟨hnot, -⟩
  · rw [e, flushAck_eq]
    rfl
  · exact absurd ((resyncDue_iff.mpr hcount).symm.trans hnot) nofun

/-- Sequencing drops an out-of-order frame whatever its dispatch (R140, R145). -/
theorem Admitted.exec_of_outOfOrder (hadm : Admitted t h p s) (hooo : OutOfOrder h s) :
    exec (frameInstr (packetClass t) h p) s = .next (flushAck (dropOutOfOrder s)) := by
  obtain ⟨d, e⟩ := exec_frame_pipeline t h p s
  have hdrop : sequenceFrame h d s = dropOutOfOrder s := by
    simp [sequenceFrame, inWindow, hooo.reliable, hooo.seq_ne]
  rw [e, hadm.pipeline_eq, hdrop]

theorem Admitted.exec_eq_countedDrop (hadm : Admitted t h p s) (hooo : OutOfOrder h s)
    (hcount : s.oooCount.toNat + 1 < 3) : exec (frameInstr (packetClass t) h p) s = .next (countedDrop s) := by
  rw [hadm.exec_of_outOfOrder hooo, flushAck_dropOutOfOrder_of_below hcount]

theorem Admitted.exec_eq_resyncDrop (hadm : Admitted t h p s) (hooo : OutOfOrder h s)
    (hcount : 3 ≤ s.oooCount.toNat + 1) : exec (frameInstr (packetClass t) h p) s = .next (resyncDrop s) := by
  rw [hadm.exec_of_outOfOrder hooo, flushAck_dropOutOfOrder_of_threshold hcount]

/-! In order (R144, R147, R190, R191). -/

/-- What an accepted frame adds to the FIFO: itself, if its type is a payload type and there is room (R190, R191). -/
def queuedFrames (t : PacketType) (h : FrameHeader) (p : List Byte) (s : State) : List (List Byte) :=
  if t ∈ ([2, 3, 4, 5] : List PacketType) ∧ s.fifo.length ≠ 10 then [headerBytes t h ++ p] else []

/-- The record of a payload frame that finds the FIFO full (R191). -/
def overflowRecords (t : PacketType) (s : State) : List EventCode :=
  if t ∈ ([2, 3, 4, 5] : List PacketType) ∧ s.fifo.length = 10 then [.eFifoFull] else []

/-- The end of an accepted reliable frame that is not link control. -/
def acceptedReliable (t : PacketType) (h : FrameHeader) (p : List Byte) (s : State) : State := { s with
  txAck := s.txAck + 1, oooCount := 0, ackOwed := false, rxAck := h.ack, fifo := s.fifo ++ queuedFrames t h p s,
  events := s.events ++ overflowRecords t s, txStream := s.txStream ++ wire 0 false 0 (s.txAck + 1) [] }

@[simp] theorem accept_fifo (h : FrameHeader) (s : State) : (accept h s).fifo = s.fifo := by
  unfold accept
  split <;> rfl

theorem queued_and_overflow_of_full (ht : t ∈ ([2, 3, 4, 5] : List PacketType)) (hfull : s.fifo.length = 10) :
    queuedFrames t h p s = [] ∧ overflowRecords t s = [.eFifoFull] :=
  ⟨if_neg fun hqueued => hqueued.2 hfull, if_pos ⟨ht, hfull⟩⟩

theorem queued_and_overflow_of_room (ht : t ∈ ([2, 3, 4, 5] : List PacketType)) (hroom : s.fifo.length ≠ 10) :
    queuedFrames t h p s = [headerBytes t h ++ p] ∧ overflowRecords t s = [] :=
  ⟨if_pos ⟨ht, hroom⟩, if_neg fun hoverflow => hroom hoverflow.2⟩

theorem queued_and_overflow_of_not_payload (ht : t ∉ ([2, 3, 4, 5] : List PacketType)) :
    queuedFrames t h p s = [] ∧ overflowRecords t s = [] :=
  ⟨if_neg fun hqueued => ht hqueued.1, if_neg fun hoverflow => ht hoverflow.1⟩

/-- An accepted payload frame is pushed before its ACK goes out (R149, R190). -/
theorem flushAck_fifoPush_accept (hr : h.reliable = true) (ht : t ∈ ([2, 3, 4, 5] : List PacketType)) :
    flushAck (fifoPush (headerBytes t h ++ p) (accept h s)) = acceptedReliable t h p s := by
  rcases fifoPush_cases (headerBytes t h ++ p) (accept h s) with ⟨hfull, e⟩ | ⟨hroom, e⟩
  · rw [accept_fifo] at hfull
    obtain ⟨hqueued, hoverflow⟩ := queued_and_overflow_of_full (h := h) (p := p) ht hfull
    rw [e]
    simp [flushAck_eq, accept, hr, recordAck, acceptInOrder, acceptedReliable, hqueued, hoverflow]
  · rw [accept_fifo] at hroom
    obtain ⟨hqueued, hoverflow⟩ := queued_and_overflow_of_room (h := h) (p := p) ht hroom
    rw [e, flushAck_with_fifo, flushAck_accept_of_reliable hr, accept_fifo]
    simp [acceptedReliable, hqueued, hoverflow]

/-- An in-order reliable frame of any type but link control is accepted, and queued if it is a payload frame. -/
theorem Admitted.exec_eq_acceptedReliable (hadm : Admitted t h p s) (hlc : t ≠ 15) (hr : h.reliable = true)
    (hseq : h.seq = s.txAck) : exec (frameInstr (packetClass t) h p) s = .next (acceptedReliable t h p s) := by
  obtain ⟨d, e, hd⟩ := runFrame_pipeline t h p s
  rw [exec_frameInstr, e, hadm.pipeline_eq, sequenceFrame_of_inOrder fun _ => hseq]
  rcases hd with ⟨ht, rfl⟩ | ⟨ht, -⟩ | ⟨ht, rfl⟩
  · rw [flushAck_fifoPush_accept hr ht]
  · exact absurd ht hlc
  · have hsilent : t ∉ ([2, 3, 4, 5] : List PacketType) := fun hmem => ht (List.mem_append_left [15] hmem)
    obtain ⟨hqueued, hoverflow⟩ := queued_and_overflow_of_not_payload (h := h) (p := p) (s := s) hsilent
    rw [flushAck_accept_of_reliable hr]
    simp [acceptedReliable, hqueued, hoverflow]

/-! Runs of frames. -/

/-- The checks before sequencing read nothing of the state but `link_state` (R140). -/
theorem Admitted.of_linkState (u : State) (hadm : Admitted t h p s) (hlink : u.linkState = s.linkState) :
    Admitted t h p u :=
  ⟨hadm.checksum, hadm.length, hlink ▸ hadm.gate⟩

theorem execAll_cons_of_next {i : Instr} {is : List Instr} {u : State} (hexec : exec i s = .next u) :
    execAll (i :: is) s = execAll is u := by
  rw [execAll, hexec]

/-- Two frames out of order with no count before are two counted drops (R145). -/
theorem execAll_two_outOfOrder {t1 t2 : PacketType} {h1 h2 : FrameHeader} {p1 p2 : List Byte} {is : List Instr}
    (hadm1 : Admitted t1 h1 p1 s) (hadm2 : Admitted t2 h2 p2 s) (hooo1 : OutOfOrder h1 s) (hooo2 : OutOfOrder h2 s)
    (hcount : s.oooCount = 0) :
    execAll (frameInstr (packetClass t1) h1 p1 :: frameInstr (packetClass t2) h2 p2 :: is) s =
      execAll is (countedDrop (countedDrop s)) := by
  have hcount1 : s.oooCount.toNat + 1 < 3 := by simp [hcount]
  have hcount2 : (countedDrop s).oooCount.toNat + 1 < 3 := by simp [countedDrop, hcount]
  have hooo2' : OutOfOrder h2 (countedDrop s) := ⟨hooo2.reliable, hooo2.seq_ne⟩
  rw [execAll_cons_of_next (hadm1.exec_eq_countedDrop hooo1 hcount1),
    execAll_cons_of_next ((hadm2.of_linkState (countedDrop s) rfl).exec_eq_countedDrop hooo2' hcount2)]

end Sys2Proof.Machine

namespace Sys2Proof.Proofs

open Sys2Proof.Machine

/-- Settles O20. -/
theorem badChecksumDropsFrame : Obligations.BadChecksumDropsFrame := by
  intro t h p s hbad
  obtain ⟨d, e⟩ := exec_frame_pipeline t h p s
  rw [e, pipeline_of_not_verifies (Bool.eq_false_iff.mpr (mt headerVerifies_iff.mp hbad))]
  rfl

/-- Settles O22: the gate is the third check, and the first two pass the frame. -/
theorem activeGateDropsFrame : Obligations.ActiveGateDropsFrame := by
  intro t h p s hc hlen hinactive hlc
  have hpass : lengthDrops h p = false := by
    refine Bool.eq_false_iff.mpr fun hdrop => ?_
    obtain ⟨hne, hexact⟩ := lengthDrops_iff.mp hdrop
    rcases hlen with hlen | hignore
    · exact hne hlen
    · exact absurd (hexact.symm.trans hignore) nofun
  obtain ⟨d, e⟩ := exec_frame_pipeline t h p s
  rw [e, pipeline_of_gateDrops (headerVerifies_iff.mpr hc) hpass (gateDrops_iff.mpr ⟨hinactive, hlc⟩)]
  rfl

/-- Settles O21: under EXACT the length check drops the frame; under IGNORE it goes on, and an unreliable payload frame
is admitted and queued. -/
theorem lengthDisagreementFollowsThePolicy : Obligations.LengthDisagreementFollowsThePolicy := by
  refine ⟨fun t h p s hc hlen => ?completes, fun e he h p s hc hlen hactive hr hack hroom => ?payload⟩
  case completes =>
    obtain ⟨d, e⟩ := exec_frame_pipeline t h p s
    refine ⟨pipeline t h p d s, ?_⟩
    rw [e]
    split
    next hpol =>
      rw [pipeline_of_exact hc hlen hpol]
      rfl
    next => rfl
  case payload =>
    rw [exec_of_mem_payloadFrames he]
    split
    next hpol =>
      rw [pipeline_of_exact hc hlen hpol]
      rfl
    next hpol =>
      have hpass : lengthDrops h p = false := Bool.eq_false_iff.mpr fun hdrop => hpol (lengthDrops_iff.mp hdrop).2
      have hgate : gateDrops e.1 s = false := Bool.eq_false_iff.mpr fun hdrop => (gateDrops_iff.mp hdrop).1 hactive
      have hadm := admitted_of_checks (headerVerifies_iff.mpr hc) hpass hgate
      rw [hadm.pipeline_eq, sequenceFrame_of_inOrder (by simp [hr])]
      rcases fifoPush_cases (headerBytes e.1 h ++ p) (accept h s) with ⟨hfull, -⟩ | ⟨-, epush⟩
      · rw [accept_fifo] at hfull
        exact absurd hfull hroom.ne
      · rw [epush, flushAck_with_fifo, flushAck_accept_of_unreliable hr hack, accept_fifo]

/-- Settles O27: the two ends of an out-of-order drop. -/
theorem outOfOrderFrameIsDroppedAndAcknowledged : Obligations.OutOfOrderFrameIsDroppedAndAcknowledged :=
  fun _ _ _ _ hadm hr hseq => ⟨hadm.exec_eq_countedDrop ⟨hr, hseq⟩, hadm.exec_eq_resyncDrop ⟨hr, hseq⟩⟩

/-- Settles O31: two counted drops bring the count to the threshold, and the third resynchronises. -/
theorem thirdOutOfOrderFrameResyncs : Obligations.ThirdOutOfOrderFrameResyncs := by
  intro t1 t2 t3 h1 h2 h3 p1 p2 p3 s hadm1 hadm2 hadm3 hr1 hr2 hr3 hseq1 hseq2 hseq3 hcount
  have hooo3 : OutOfOrder h3 (countedDrop (countedDrop s)) := ⟨hr3, hseq3⟩
  have hthreshold : 3 ≤ (countedDrop (countedDrop s)).oooCount.toNat + 1 := by simp [countedDrop, hcount]
  rw [execAll_two_outOfOrder hadm1 hadm2 ⟨hr1, hseq1⟩ ⟨hr2, hseq2⟩ hcount,
    execAll_cons_of_next ((hadm3.of_linkState (countedDrop (countedDrop s)) rfl).exec_eq_resyncDrop hooo3 hthreshold)]
  simp [execAll, resyncDrop, countedDrop, hcount]

/-- Settles O30: after the first frame the window names `seq = t + 1`, so the skip and the duplicate are both out of
order. -/
theorem skipAndDuplicateAreBothCounted : Obligations.SkipAndDuplicateAreBothCounted := by
  intro t1 t2 t3 h1 h2 h3 p1 p2 p3 s hadm1 hadm2 hadm3 hlc hr1 hr2 hr3 hseq1 hseq2 hseq3 hcount
  have hskip : OutOfOrder h2 (acceptedReliable t1 h1 p1 s) := by
    refine ⟨hr2, fun heq => ?_⟩
    have hsame : s.txAck + 2 = s.txAck + 1 := hseq2.symm.trans heq
    bv_omega
  have hduplicate : OutOfOrder h3 (acceptedReliable t1 h1 p1 s) := by
    refine ⟨hr3, fun heq => ?_⟩
    have hsame : s.txAck = s.txAck + 1 := hseq3.symm.trans heq
    bv_omega
  rw [execAll_cons_of_next (hadm1.exec_eq_acceptedReliable hlc hr1 hseq1),
    execAll_two_outOfOrder (hadm2.of_linkState (acceptedReliable t1 h1 p1 s) rfl) (hadm3.of_linkState _ rfl)
      hskip hduplicate rfl]
  simp [execAll, countedDrop, acceptedReliable, queuedFrames, overflowRecords]

end Sys2Proof.Proofs
end

section
/-! PROOFS. The link-control messages (R160 to R172): what each does to the state, and which payloads name no message. -/

namespace Sys2Proof.Machine

variable {s : State} {p : List Byte}

/-! The peer reset that the two SYNC messages share (R161, R163, R164). -/

theorem resetIfActive_of_active (hactive : s.linkState = .active) : resetIfActive s = peerReset s := if_pos hactive

theorem resetIfActive_of_not_active (hactive : s.linkState ≠ .active) : resetIfActive s = s := if_neg hactive

/-! The handshake (R163 to R167). -/

theorem exec_lcSyncReq (rest : List Byte) (s : State) :
    exec (.lcSyncReq rest) s = .next (sendLc syncRespPayload (resetIfActive s)) := rfl

theorem exec_lcSyncResp (rest : List Byte) (s : State) :
    exec (.lcSyncResp rest) s = .next (sendLc configReqPayload { resetIfActive s with linkState := .init }) := rfl

theorem exec_lcConfigReq (rest : List Byte) (s : State) :
    exec (.lcConfigReq rest) s = .next (sendLc configReqPayload (sendLc configRespPayload s)) := rfl

theorem exec_lcConfigResp (rest : List Byte) (s : State) :
    exec (.lcConfigResp rest) s =
      .next (fireInit { s with txWin := adoptedWindow rest s.txWin, linkState := .active }) := rfl

/-- A handshake that has notified does not notify again (R30, R167). -/
theorem fireInit_of_fired (hfired : s.initFired = true) : fireInit s = s := if_pos hfired

theorem fireInit_of_clear (hclear : s.initFired = false) :
    fireInit s = { s with initFired := true, events := s.events ++ [.evInitComplete] } :=
  if_neg (Bool.eq_false_iff.mp hclear)

/-! Sleep (R168 to R170). -/

theorem exec_lcWakeupReq (rest : List Byte) (s : State) :
    exec (.lcWakeupReq rest) s = .next { sendLc wokenReqPayload s with sleepState := .awake } := rfl

/-! The payloads that name no message (R77, R172). -/

theorem isKnownSignature_of_short (hshort : p.length < 2) : isKnownSignature p = false := by
  match p, hshort with
  | [], _ => rfl
  | [_], _ => rfl

/-- The handler's comparisons find no message exactly where the table of signatures has none. -/
theorem lcMessage_eq_unknown_iff : lcMessage p = .unknown p ↔ isKnownSignature p = false := by
  match p with
  | [] => exact ⟨fun _ => rfl, fun _ => rfl⟩
  | [_] => exact ⟨fun _ => rfl, fun _ => rfl⟩
  | a :: b :: rest =>
    simp only [lcMessage, isKnownSignature, decide_eq_false_iff_not, List.mem_cons, Prod.mk.injEq, List.not_mem_nil,
      or_false, not_or]
    grind

theorem decodeLcPayload_of_not_known (hunknown : isKnownSignature p = false) : decodeLcPayload p = .lcUnknown p :=
  congrArg lcInstr (lcMessage_eq_unknown_iff.mpr hunknown)

end Sys2Proof.Machine

namespace Sys2Proof.Proofs

open Sys2Proof.Machine

/-- Settles O33: the answer carries the `tx_ack` that the peer reset leaves. -/
theorem syncReqIsAnsweredAndResetsActive : Obligations.SyncReqIsAnsweredAndResetsActive := by
  intro rest s
  refine ⟨fun hinactive => ?inactive, fun hactive => ?active⟩
  case inactive =>
    rw [exec_lcSyncReq, resetIfActive_of_not_active hinactive, sendLc_eq]
    rfl
  case active =>
    rw [exec_lcSyncReq, resetIfActive_of_active hactive, sendLc_eq]
    rfl

/-- Settles O34: the reset comes before INIT is set, and the answer carries the `tx_ack` it leaves. -/
theorem syncRespGivesInit : Obligations.SyncRespGivesInit := by
  intro rest s
  refine ⟨fun hinactive => ?inactive, fun hactive => ?active⟩
  case inactive =>
    rw [exec_lcSyncResp, resetIfActive_of_not_active hinactive, sendLc_eq]
    rfl
  case active =>
    rw [exec_lcSyncResp, resetIfActive_of_active hactive, sendLc_eq]
    rfl

/-- Settles O35: the first answer leaves the `tx_ack` that the second carries. -/
theorem configReqIsAnsweredTwice : Obligations.ConfigReqIsAnsweredTwice := by
  intro rest s
  rw [exec_lcConfigReq, sendLc_eq, sendLc_eq]
  rfl

/-- Settles O36: the notification depends on `init_fired` only, which adopting the window leaves as it is. -/
theorem configRespActivatesAndNotifiesOnce : Obligations.ConfigRespActivatesAndNotifiesOnce := by
  intro rest s w hw
  have hadopted : w = adoptedWindow rest s.txWin := by cases rest <;> exact hw
  rw [exec_lcConfigResp, hadopted]
  refine ⟨fun hfired => ?fired, fun hclear => ?clear⟩
  case fired => exact congrArg Host.Outcome.next (fireInit_of_fired hfired)
  case clear => exact congrArg Host.Outcome.next (fireInit_of_clear hclear)

/-- Settles O37: of the three messages only WAKEUP_REQ is answered. -/
theorem sleepMessagesSetTheSleepState : Obligations.SleepMessagesSetTheSleepState := by
  intro rest s
  refine ⟨rfl, rfl, ?wakeup⟩
  case wakeup =>
    rw [exec_lcWakeupReq, sendLc_eq]
    rfl

/-- Settles O38: a payload of fewer than two bytes has no signature either. -/
theorem unknownLinkControlOnlyLogs : Obligations.UnknownLinkControlOnlyLogs := by
  refine ⟨fun _ _ => rfl, ?decodes⟩
  case decodes =>
    rintro p (hshort | hunknown)
    · exact decodeLcPayload_of_not_known (isKnownSignature_of_short hshort)
    · exact decodeLcPayload_of_not_known hunknown

end Sys2Proof.Proofs
end

section
/-! PROOFS. The receiver frame FIFO (R85, R190, R191, R193, R194, R198): what a POP and a run of pushes do, and which
frames are queued. -/

namespace Sys2Proof.Machine

variable {s t : State} {f : List Byte}

/-! POP (R193, R194). -/

theorem exec_cmdPop (s : State) : exec .cmdPop s = .next (if popEnabled s then popFrame s else holdPop s) := rfl

theorem popEnabled_eq_false_iff : popEnabled s = false ↔ s.running = false ∨ s.fifo = [] := by
  cases hrun : s.running <;> simp [popEnabled, hrun]

theorem popFrame_of_cons {slot : List Byte} {rest : List (List Byte)} (hfifo : s.fifo = slot :: rest) :
    popFrame s = { s with fifo := rest, deliveries := s.deliveries ++ [deliveryOf slot] } := by
  rw [popFrame, hfifo]

/-! FifoPush (R191). -/

theorem fifoPush_of_full (hfull : s.fifo.length = 10) :
    fifoPush f s = { s with events := s.events ++ [.eFifoFull] } := if_pos hfull

theorem fifoPush_of_room (hroom : s.fifo.length ≠ 10) : fifoPush f s = { s with fifo := s.fifo ++ [f] } :=
  if_neg hroom

/-- The state after the frames `fs` have been pushed with no POP. -/
def pushed (fs : List (List Byte)) (s : State) : State :=
  { s with fifo := s.fifo ++ fs.take (10 - s.fifo.length),
           events := s.events ++ List.replicate (fs.length - (10 - s.fifo.length)) .eFifoFull }

theorem pushed_nil (s : State) : pushed [] s = s := by
  simp [pushed]

/-- The first frame is pushed, then the others. -/
theorem pushed_cons (f : List Byte) (fs : List (List Byte)) (hle : s.fifo.length ≤ 10) :
    pushed fs (fifoPush f s) = pushed (f :: fs) s := by
  by_cases hfull : s.fifo.length = 10
  · simp [fifoPush_of_full hfull, pushed, hfull, List.replicate_succ]
  · obtain ⟨k, hk⟩ : ∃ k, 10 - s.fifo.length = k + 1 := ⟨9 - s.fifo.length, by omega⟩
    have hk' : 10 - (s.fifo.length + 1) = k := by omega
    simp [fifoPush_of_room hfull, pushed, hk, hk']

theorem fifoPush_length_le (f : List Byte) (hle : s.fifo.length ≤ 10) : (fifoPush f s).fifo.length ≤ 10 := by
  by_cases hfull : s.fifo.length = 10
  · rw [fifoPush_of_full hfull]
    exact hle
  · rw [fifoPush_of_room hfull, List.length_append, List.length_singleton]
    omega

theorem foldl_fifoPush_eq_pushed (fs : List (List Byte)) (s : State) (hle : s.fifo.length ≤ 10) :
    fs.foldl (fun u f => fifoPush f u) s = pushed fs s := by
  induction fs generalizing s with
  | nil => exact (pushed_nil s).symm
  | cons f fs ih => rw [List.foldl_cons, ih _ (fifoPush_length_le f hle), pushed_cons f fs hle]

/-! Which frames are queued (R143, R152, R190). -/

@[simp] theorem dropOutOfOrder_fifo (s : State) : (dropOutOfOrder s).fifo = s.fifo := by
  rcases dropOutOfOrder_cases s with ⟨-, e⟩ | ⟨-, e⟩ <;> rw [e]

@[simp] theorem linkControl_fifo (p : List Byte) (s : State) : (linkControl p s).fifo = s.fifo := by
  obtain ⟨ls, ss, a, b, c, w, o, i, dx, de, e, -⟩ := linkControl_effect p s
  rw [e]

@[simp] theorem txFrame_fifo (ty : PacketType) (p : List Byte) (s : State) : (txFrame ty p s).fifo = s.fifo := by
  rw [txFrame_eq]

@[simp] theorem bufAppend_fifo (v : Byte) (s : State) : (bufAppend v s).fifo = s.fifo := by
  rcases bufAppend_cases v s with ⟨-, e⟩ | ⟨-, e⟩ <;> rw [e]

theorem sendFrame_fifo (ty : PacketType) (p : List Byte) (s : State) : (sendFrame ty p s).fifo = s.fifo := by
  unfold sendFrame
  split
  · rfl
  · rw [txFrame_fifo]
    unfold markEarlySend
    split <;> rfl

/-- From `s` to `t` the frame `f`, of a payload type, is queued while the link is ACTIVE (R143, R152, R190). -/
structure Queues (f : List Byte) (s t : State) : Prop where
  active : s.linkState = .active
  fifo : t.fifo = s.fifo ++ [f]
  payloadType : (f.getD 1 0).extractLsb' 0 4 ∈ ([2, 3, 4, 5] : List PacketType)

/-- The type a frame's header carries is the one its byte 1 is read as (R72). -/
theorem packetType_of_headerBytes (ty : PacketType) (h : FrameHeader) (p : List Byte) :
    ((headerBytes ty h ++ p).getD 1 0).extractLsb' 0 4 = ty := packetTypeOf_headerByte1 ty h

/-- A payload frame passes the Active gate only while the link is ACTIVE (R143). -/
theorem Admitted.active_of_payload {ty : PacketType} {h : FrameHeader} {p : List Byte} (hadm : Admitted ty h p s)
    (hty : ty ∈ ([2, 3, 4, 5] : List PacketType)) : s.linkState = .active := by
  rcases hadm.gate with hactive | rfl
  · exact hactive
  · exact absurd hty (by decide)

/-- Of the three dispatches only the push reaches the FIFO, and the frame it queues has passed the checks. -/
theorem processFrame_queues (f : List Byte) (s : State) :
    (processFrame f s).fifo = s.fifo ∨ Queues f s (processFrame f s) := by
  rcases processFrame_cases f s with ⟨-, e⟩ | ⟨ty, h, p, hf, -, e⟩
  · exact .inl (by rw [e, logRecord_fifo])
  · obtain ⟨d, erun, hd⟩ := runFrame_pipeline ty h p s
    rw [e, erun]
    rcases pipeline_row ty h p d s with ⟨_, -, ep⟩ | ep | ⟨hadm, -, ep⟩ <;> rw [ep]
    · exact .inl rfl
    · exact .inl (by rw [flushAck_fifo, dropOutOfOrder_fifo])
    · rcases hd with ⟨hty, rfl⟩ | ⟨-, rfl⟩ | ⟨-, rfl⟩
      · rw [← hf]
        by_cases hfull : (accept h s).fifo.length = 10
        · exact .inl (by rw [flushAck_fifo, fifoPush_of_full hfull, accept_fifo])
        · exact .inr
            { active := hadm.active_of_payload hty
              fifo := by rw [flushAck_fifo, fifoPush_of_room hfull, accept_fifo]
              payloadType := by rw [hf, packetType_of_headerBytes]; exact hty }
      · exact .inl (by rw [flushAck_fifo, linkControl_fifo, accept_fifo])
      · exact .inl (by rw [flushAck_fifo, accept_fifo])

theorem IntakeRow.queues {b : Byte} (hrow : IntakeRow b s t) : t.fifo = s.fifo ∨ ∃ f, Queues f s t := by
  cases hrow with
  | ignored => exact .inl rfl
  | opened => exact .inl rfl
  | escaped => exact .inl rfl
  | discarded => exact .inl rfl
  | stored v => exact .inl (bufAppend_fifo v _)
  | closed =>
    rcases processFrame_queues (collectedFrame s) (parserToHunt s) with hsame | ⟨hactive, hfifo, hty⟩
    · exact .inl hsame
    · exact .inr ⟨_, hactive, hfifo, hty⟩

theorem PopRow.fifo_length_le (hrow : PopRow s t) : t.fifo.length ≤ s.fifo.length := by
  cases hrow with
  | held => exact Nat.le_refl _
  | delivered hfifo => simp [hfifo]

/-- No command queues a frame: RESET empties the FIFO and a POP may shorten it (R194, R211). -/
theorem CommandRow.fifo_length_le (hrow : CommandRow s t) : t.fifo.length ≤ s.fifo.length := by
  cases hrow with
  | reset => exact Nat.zero_le _
  | start => exact Nat.le_of_eq (congrArg List.length (txFrame_fifo _ _ _))
  | stop => exact Nat.le_refl _
  | send ty p => rw [sendFrame_fifo]
  | pop hpop => exact hpop.fifo_length_le
  | refused => exact Nat.le_refl _

/-- A step queues a frame only as the intake agent's, while ACTIVE. -/
theorem step_queues (hstep : step s = .next t) :
    t.fifo.length ≤ s.fifo.length ∨ (s.turns.head? = some .intake ∧ ∃ f, Queues f s t) := by
  cases step_row hstep with
  | passed hfetch =>
    obtain ⟨ts, bs, cs, n, rfl⟩ := hfetch
    exact .inl (Nat.le_refl _)
  | intake hturn _ hfetch hrow =>
    obtain ⟨ts, bs, cs, n, rfl⟩ := hfetch
    rcases hrow.queues with hsame | ⟨f, hactive, hfifo, hty⟩
    · exact .inl (Nat.le_of_eq (congrArg List.length hsame))
    · exact .inr ⟨hturn, f, hactive, hfifo, hty⟩
  | host _ hfetch hrow =>
    obtain ⟨ts, bs, cs, n, rfl⟩ := hfetch
    exact .inl hrow.fifo_length_le
  | consumer hfetch hrow =>
    obtain ⟨ts, bs, cs, n, rfl⟩ := hfetch
    exact .inl hrow.fifo_length_le

end Sys2Proof.Machine

namespace Sys2Proof.Proofs

open Sys2Proof.Machine

/-- Settles O43: whether the POP is enabled decides between the two clauses. -/
theorem popDeliversTheHeadOrIsHeld : Obligations.PopDeliversTheHeadOrIsHeld := by
  intro s
  refine ⟨fun slot rest hrun hfifo => ?delivered, fun hidle => ?held⟩
  case delivered =>
    have henabled : popEnabled s = true := by simp [popEnabled, hrun, hfifo]
    rw [exec_cmdPop, if_pos henabled, popFrame_of_cons hfifo]
    rfl
  case held =>
    have hdisabled : popEnabled s = false := popEnabled_eq_false_iff.mpr hidle
    rw [exec_cmdPop, hdisabled]
    rfl

/-- Settles O46, by induction on the frames. -/
theorem pushesFillTheFifoThenDrop : Obligations.PushesFillTheFifoThenDrop := foldl_fifoPush_eq_pushed

/-- Settles O58: the closing delimiter of a payload frame is the one row that lengthens the FIFO. -/
theorem framesAreQueuedOnlyWhileActive : Obligations.FramesAreQueuedOnlyWhileActive := by
  intro s t hstep hlonger
  rcases step_queues hstep with hle | ⟨hturn, f, hactive, hfifo, hty⟩
  · exact absurd hlonger (Nat.not_lt.mpr hle)
  · exact ⟨hactive, hturn, f, hfifo, hty⟩

end Sys2Proof.Proofs
end

section
/-! PROOFS. The consumer's side and the protocol (R62, R199): the FIFO, the records, the deliveries and the POPs held
are observation and payload; no operation reads them to decide what becomes of the rest of the state. -/

namespace Sys2Proof.Machine

variable {s s' t t' : State} {f g : State → State} {c : State → Prop}

/-- The protocol's part of a state: all but the FIFO, the records, the deliveries and the POPs held. -/
def State.protocol (s : State) : State :=
  { s with fifo := [], events := [], deliveries := [], popRequests := 0 }

/-- What an operation does to the protocol's part depends on the protocol's part alone. -/
def ProtocolBlind (f : State → State) : Prop := ∀ s, (f s.protocol).protocol = (f s).protocol

/-- States with one protocol part differ only on the consumer's side. -/
theorem eq_with_of_protocol_eq (h : t'.protocol = t.protocol) :
    t' = { t with fifo := t'.fifo, events := t'.events, deliveries := t'.deliveries, popRequests := t'.popRequests } := by
  calc t' = { t'.protocol with fifo := t'.fifo, events := t'.events, deliveries := t'.deliveries,
                               popRequests := t'.popRequests } := rfl
    _ = { t.protocol with fifo := t'.fifo, events := t'.events, deliveries := t'.deliveries,
                          popRequests := t'.popRequests } := by rw [h]

namespace ProtocolBlind

theorem id : ProtocolBlind fun s => s := fun _ => rfl

theorem comp (hf : ProtocolBlind f) (hg : ProtocolBlind g) : ProtocolBlind fun s => f (g s) := by
  intro s
  calc (f (g s.protocol)).protocol
      = (f (g s.protocol).protocol).protocol := (hf _).symm
    _ = (f (g s).protocol).protocol := by rw [hg]
    _ = (f (g s)).protocol := hf _

/-- A choice that the consumer's side has no part in. -/
theorem ite [DecidablePred c] (hc : ∀ s, c s.protocol ↔ c s) (hf : ProtocolBlind f) (hg : ProtocolBlind g) :
    ProtocolBlind fun s => if c s then f s else g s := by
  intro s
  by_cases h : c s
  · simp only [if_pos h, if_pos ((hc s).mpr h), hf s]
  · simp only [if_neg h, if_neg (mt (hc s).mp h), hg s]

/-- An operation of the consumer's side. -/
theorem of_kept (hf : ∀ s, (f s).protocol = s.protocol) : ProtocolBlind f := fun s => by rw [hf, hf]; rfl

end ProtocolBlind

/-! The operations of the FIFO leave the protocol's part as it is (R191, R193, R194). -/

theorem fifoPush_protocol (l : List Byte) (s : State) : (fifoPush l s).protocol = s.protocol := by
  rcases fifoPush_cases l s with ⟨-, e⟩ | ⟨-, e⟩ <;> rw [e] <;> rfl

/-- A POP, delivered or held, writes the FIFO, the deliveries and the POPs held. -/
theorem PopRow.frame (hrow : PopRow s t) :
    t = { s with fifo := t.fifo, deliveries := t.deliveries, popRequests := t.popRequests } := by
  cases hrow with
  | held => rfl
  | delivered => rfl

theorem PopRow.protocol (hrow : PopRow s t) : t.protocol = s.protocol := by
  rw [hrow.frame]
  rfl

/-! The operations that transmit, log and collect. -/

theorem protocolBlind_txFrame (ty : PacketType) (p : List Byte) : ProtocolBlind (txFrame ty p) := by
  intro s
  rw [txFrame_eq, txFrame_eq]
  rfl

theorem protocolBlind_sendLc (p : List Byte) : ProtocolBlind (sendLc p) := protocolBlind_txFrame linkControlType p

theorem protocolBlind_bufAppend (v : Byte) : ProtocolBlind (bufAppend v) :=
  .ite (fun _ => .rfl) (fun _ => rfl) fun _ => rfl

theorem protocolBlind_resolveEscape (v : Byte) : ProtocolBlind fun s => bufAppend v { s with esc := false } :=
  (protocolBlind_bufAppend v).comp (g := fun s => { s with esc := false }) fun _ => rfl

theorem protocolBlind_dropOutOfOrder : ProtocolBlind dropOutOfOrder :=
  .ite (fun _ => .rfl) (fun _ => by simp only [sendLc_eq]; rfl) fun _ => rfl

theorem protocolBlind_flushAck : ProtocolBlind flushAck := by
  have hsend : ProtocolBlind fun s => { txFrame ackType [] s with ackOwed := false } :=
    .comp (f := fun s => { s with ackOwed := false }) (fun _ => rfl) (protocolBlind_txFrame ackType [])
  exact .ite (fun _ => .rfl) hsend .id

/-! The link-control messages. -/

theorem protocolBlind_resetIfActive : ProtocolBlind resetIfActive := .ite (fun _ => .rfl) (fun _ => rfl) .id

theorem protocolBlind_syncReq : ProtocolBlind syncReq := (protocolBlind_sendLc _).comp protocolBlind_resetIfActive

theorem protocolBlind_syncResp : ProtocolBlind syncResp :=
  (protocolBlind_sendLc _).comp <|
    .comp (f := fun s => { s with linkState := .init }) (fun _ => rfl) protocolBlind_resetIfActive

theorem protocolBlind_configReq : ProtocolBlind configReq := (protocolBlind_sendLc _).comp (protocolBlind_sendLc _)

theorem protocolBlind_configResp (rest : List Byte) : ProtocolBlind (configResp rest) := by
  have hfire : ProtocolBlind fireInit := .ite (fun _ => .rfl) .id fun _ => rfl
  exact hfire.comp (g := fun s => { s with txWin := adoptedWindow rest s.txWin, linkState := .active }) fun _ => rfl

theorem protocolBlind_wakeupReq : ProtocolBlind wakeupReq :=
  .comp (f := fun s => { s with sleepState := .awake }) (fun _ => rfl) (protocolBlind_sendLc _)

theorem protocolBlind_linkControl (p : List Byte) : ProtocolBlind (linkControl p) := by
  unfold linkControl
  cases lcMessage p with
  | syncReq => exact protocolBlind_syncReq
  | syncResp => exact protocolBlind_syncResp
  | configReq => exact protocolBlind_configReq
  | configResp rest => exact protocolBlind_configResp rest
  | wakeupReq => exact protocolBlind_wakeupReq
  | sleepReq | wokenReq | unknown => exact fun _ => rfl

/-! The frame pipeline. -/

theorem protocolBlind_sequenceFrame (h : FrameHeader) (hf : ProtocolBlind f) : ProtocolBlind (sequenceFrame h f) :=
  .ite (fun _ => .rfl)
    (.ite (fun _ => .rfl) (hf.comp (g := fun s => recordAck h (acceptInOrder s)) fun _ => rfl)
      protocolBlind_dropOutOfOrder)
    (hf.comp (g := recordAck h) fun _ => rfl)

theorem protocolBlind_pipeline (ty : PacketType) (h : FrameHeader) (p : List Byte) (hf : ProtocolBlind f) :
    ProtocolBlind (pipeline ty h p f) :=
  .ite (fun _ => .rfl) (fun _ => rfl) <|
    .ite (fun _ => .rfl) (fun _ => rfl) <|
      .ite (fun _ => .rfl) (fun _ => rfl) <|
        protocolBlind_flushAck.comp (protocolBlind_sequenceFrame h hf)

theorem protocolBlind_runFrame (k : PacketClass) (h : FrameHeader) (p : List Byte) : ProtocolBlind (runFrame k h p) := by
  cases k with
  | ack | command | reserved => exact protocolBlind_pipeline _ h p .id
  | acl | sco | event | iso => exact protocolBlind_pipeline _ h p (.of_kept (fifoPush_protocol _))
  | linkControl => exact protocolBlind_pipeline _ h p (protocolBlind_linkControl p)

theorem protocolBlind_closeFrame : ProtocolBlind closeFrame := by
  have hprocess (l : List Byte) : ProtocolBlind (processFrame l) := by
    unfold processFrame
    split
    · exact protocolBlind_runFrame _ _ _
    · exact fun _ => rfl
  exact .ite (fun _ => .rfl) .id fun s => hprocess (collectedFrame s) (parserToHunt s)

/-! The commands, and every instruction. -/

theorem protocolBlind_startEngine : ProtocolBlind startEngine :=
  (protocolBlind_txFrame _ _).comp (g := fun s => { protocolReset s with running := true }) fun _ => rfl

theorem protocolBlind_sendFrame (ty : PacketType) (p : List Byte) : ProtocolBlind (sendFrame ty p) := by
  have hmark : ProtocolBlind (markEarlySend ty) := .ite (fun _ => .rfl) (fun _ => rfl) .id
  exact .ite (fun _ => .rfl) (fun _ => rfl) ((protocolBlind_txFrame ty p).comp hmark)

theorem exec_protocolBlind (i : Instr) : ∃ f, ProtocolBlind f ∧ ∀ s, exec i s = .next (f s) := by
  cases i with
  | rxbEscEnd | rxbEscEsc => exact ⟨_, protocolBlind_resolveEscape _, fun _ => rfl⟩
  | rxbEndFrame => exact ⟨_, protocolBlind_closeFrame, fun _ => rfl⟩
  | rxbData b => exact ⟨_, protocolBlind_bufAppend b, fun _ => rfl⟩
  | frameAck h p => exact ⟨_, protocolBlind_runFrame .ack h p, fun _ => rfl⟩
  | frameCommand h p => exact ⟨_, protocolBlind_runFrame .command h p, fun _ => rfl⟩
  | frameAcl h p => exact ⟨_, protocolBlind_runFrame .acl h p, fun _ => rfl⟩
  | frameSco h p => exact ⟨_, protocolBlind_runFrame .sco h p, fun _ => rfl⟩
  | frameEvent h p => exact ⟨_, protocolBlind_runFrame .event h p, fun _ => rfl⟩
  | frameIso h p => exact ⟨_, protocolBlind_runFrame .iso h p, fun _ => rfl⟩
  | frameLinkControl h p => exact ⟨_, protocolBlind_runFrame .linkControl h p, fun _ => rfl⟩
  | frameReserved ty h p => exact ⟨_, protocolBlind_runFrame (.reserved ty) h p, fun _ => rfl⟩
  | lcSyncReq => exact ⟨_, protocolBlind_syncReq, fun _ => rfl⟩
  | lcSyncResp => exact ⟨_, protocolBlind_syncResp, fun _ => rfl⟩
  | lcConfigReq => exact ⟨_, protocolBlind_configReq, fun _ => rfl⟩
  | lcConfigResp rest => exact ⟨_, protocolBlind_configResp rest, fun _ => rfl⟩
  | lcWakeupReq => exact ⟨_, protocolBlind_wakeupReq, fun _ => rfl⟩
  | cmdStart => exact ⟨_, protocolBlind_startEngine, fun _ => rfl⟩
  | cmdSend ty p => exact ⟨_, protocolBlind_sendFrame ty p, fun _ => rfl⟩
  | cmdPop => exact ⟨_, .of_kept fun s => (exec_cmdPop_row (exec_cmdPop s)).protocol, exec_cmdPop⟩
  | rxbEndHunt | rxbOtherHunt | rxbEsc | rxbBadEscape | txStuffEnd | txStuffEsc | lcSleepReq | lcWokenReq | lcUnknown
  | cmdReset | cmdStop | reservedOp101 | reservedOp110 | reservedOp111 =>
    refine ⟨_, ?_, fun _ => rfl⟩
    exact fun _ => rfl

/-! The step. -/

/-- The consumer's step is a POP, or passes the turn (R14, R193). -/
theorem step_of_consumer_turn {ts : List Agent} (ht : s.turns = .consumer :: ts) (h : step s = .next t) :
    t = { s with fifo := t.fifo, deliveries := t.deliveries, popRequests := t.popRequests, turns := ts } := by
  cases hp : s.popRequests with
  | zero =>
    have hpass : step s = .next { s with turns := ts } := by simp [step, fetch, fetchPop, ht, hp]
    cases hpass.symm.trans h
    rfl
  | succ n => exact (exec_cmdPop_row ((step_consumer ht hp).symm.trans h)).frame

/-- Where the consumer does not move, the consumer's side has no part in what is fetched. -/
theorem fetch_protocol (hturn : s.turns.head? ≠ some .consumer) :
    fetch s.protocol = ((fetch s).1, (fetch s).2.protocol) := by
  unfold fetch
  cases ht : s.turns with
  | nil => simp [State.protocol, ht]
  | cons agent ts =>
    cases agent with
    | intake => cases hp : s.rxPort <;> simp [State.protocol, ht, fetchByte, hp, rxContext]
    | host => cases hp : s.cmdPort <;> simp [State.protocol, ht, fetchCommand, hp]
    | consumer => exact absurd (congrArg List.head? ht) hturn

/-- What a step does to the protocol's part depends on the protocol's part alone. -/
theorem step_protocol (h : step s = .next t) : ∃ u, step s.protocol = .next u ∧ u.protocol = t.protocol := by
  by_cases hturn : s.turns.head? = some .consumer
  · obtain ⟨ts, ht⟩ := List.head?_eq_some_iff.mp hturn
    obtain ⟨u, hu⟩ := exists_step_next s.protocol
    refine ⟨u, hu, ?_⟩
    rw [step_of_consumer_turn ht h, step_of_consumer_turn (s := s.protocol) ht hu]
    rfl
  · unfold step at h ⊢
    rw [fetch_protocol hturn]
    generalize fetch s = taken at h ⊢
    obtain ⟨i, u⟩ := taken
    cases i with
    | none =>
      cases h
      exact ⟨_, rfl, rfl⟩
    | some i =>
      obtain ⟨f, hf, hexec⟩ := exec_protocolBlind i
      cases (hexec u).symm.trans h
      exact ⟨_, hexec _, hf u⟩

/-- From two states with one protocol part, a step leaves two that have one. -/
theorem exists_step_of_protocol_eq (hsame : s'.protocol = s.protocol) (h : step s = .next t) :
    ∃ t', step s' = .next t' ∧ t'.protocol = t.protocol := by
  obtain ⟨t', h'⟩ := exists_step_next s'
  obtain ⟨u, hu, hut⟩ := step_protocol h
  obtain ⟨u', hu', hut'⟩ := step_protocol h'
  rw [hsame, hu] at hu'
  cases hu'
  exact ⟨t', h', hut'.symm.trans hut⟩

end Sys2Proof.Machine

namespace Sys2Proof.Proofs

open Sys2Proof.Machine

/-- Settles O57: the consumer's frame, and two states with one protocol part. -/
theorem consumerAndProtocolAreSeparate : Obligations.ConsumerAndProtocolAreSeparate := by
  refine ⟨fun s t ts => step_of_consumer_turn, fun s t q ev dl n hstep => ?separate⟩
  case separate =>
    obtain ⟨t', hstep', hsame⟩ := exists_step_of_protocol_eq (s := s)
      (s' := { s with fifo := q, events := ev, deliveries := dl, popRequests := n }) rfl hstep
    exact ⟨t'.fifo, t'.events, t'.deliveries, t'.popRequests,
      hstep'.trans (congrArg Host.Outcome.next (eq_with_of_protocol_eq hsame))⟩

end Sys2Proof.Proofs
end

section
/-! PROOFS. The commands of the host (R211 to R216): what RESET, START, STOP and SEND do to the whole state. -/

namespace Sys2Proof.Machine

variable {s : State} {t : PacketType} {p : List Byte}

/-! RESET, START and STOP (R211 to R213). -/

theorem exec_cmdReset (s : State) : exec .cmdReset s = .next { protocolReset s with running := false, fifo := [] } := rfl

theorem exec_cmdStart (s : State) :
    exec .cmdStart s = .next (sendLc syncReqPayload { protocolReset s with running := true }) := rfl

theorem exec_cmdStop (s : State) : exec .cmdStop s = .next { s with running := false } := rfl

/-- SYNC_REQ with ack 0 holds no byte that is stuffed (R77, R78). -/
theorem wire_syncReq : wire 15 false 0 0 syncReqPayload = [0xC0, 0x00, 0x2F, 0x00, 0xD0, 0x01, 0x7E, 0xC0] := by decide

/-! SEND (R126, R127, R214 to R216). -/

theorem sentReliable_iff : sentReliable t = true ↔ t = 1 ∨ t = 2 := by
  simp [sentReliable]

theorem txFrame_reliable (hrel : sentReliable t = true) (p : List Byte) (s : State) :
    txFrame t p s = { s with txSeq := s.txSeq + 1, txStream := s.txStream ++ wire t true s.txSeq s.txAck p } := by
  rw [txFrame_eq]
  simp [hrel, sendSeq]

/-- The obligation mark is sticky: an early payload frame sets it and no frame clears it (R36, R215). -/
theorem markEarlySend_eq (t : PacketType) (s : State) :
    markEarlySend t s = { s with oblEarlySend := s.oblEarlySend || sendTooEarly t s } := by
  unfold markEarlySend
  cases sendTooEarly t s with
  | true => rw [Bool.or_true]; rfl
  | false => rw [Bool.or_false]; rfl

theorem exec_cmdSend_of_long (hlong : 4095 < p.length) :
    exec (.cmdSend t p) s = .next { s with faultSendLength := true } :=
  congrArg Host.Outcome.next (if_pos (decide_eq_true hlong))

/-- A payload that fits is transmitted with the obligation mark already brought up to date (R214, R215, R216). -/
theorem exec_cmdSend_of_fits (hfits : p.length ≤ 4095) :
    exec (.cmdSend t p) s = .next (txFrame t p { s with oblEarlySend := s.oblEarlySend || sendTooEarly t s }) := by
  have hsend : sendFrame t p s = txFrame t p (markEarlySend t s) :=
    if_neg (by simpa [sendTooLong] using hfits)
  rw [← markEarlySend_eq, ← hsend]
  rfl

end Sys2Proof.Machine

namespace Sys2Proof.Proofs

open Sys2Proof.Machine

/-- Settles O39: RESET leaves the bytes of `rx_buf` as they were. -/
theorem resetGivesTheResetRegisters : Obligations.ResetGivesTheResetRegisters :=
  fun s => ⟨s.rxBuf, exec_cmdReset s⟩

/-- Settles O40: SYNC_REQ goes out after the reset, with the `tx_ack` of 0 it leaves. -/
theorem startBeginsTheHandshake : Obligations.StartBeginsTheHandshake := by
  intro s
  rw [exec_cmdStart, sendLc_eq, ← wire_syncReq]
  rfl

/-- Settles O41: the row of STOP writes one register, and its equation is the statement. -/
theorem stopOnlyClearsRunning : Obligations.StopOnlyClearsRunning := exec_cmdStop

/-- Settles O42: the payload's length decides whether a frame is sent, and the packet type how. -/
theorem sendTransmitsOneFrame : Obligations.SendTransmitsOneFrame := by
  intro t p s m hm
  have hmark : m = (s.oblEarlySend || sendTooEarly t s) := hm
  subst hmark
  refine ⟨exec_cmdSend_of_long, fun hfits hrel => ?reliable, fun hfits hcommand hacl => ?unreliable⟩
  case reliable => rw [exec_cmdSend_of_fits hfits, txFrame_reliable (sentReliable_iff.mpr hrel)]
  case unreliable =>
    have hunrel : sentReliable t = false :=
      Bool.eq_false_iff.mpr fun hrel => (sentReliable_iff.mp hrel).elim hcommand hacl
    rw [exec_cmdSend_of_fits hfits, txFrame_unreliable hunrel]

end Sys2Proof.Proofs
end

section
/-! PROOFS. Exceptions and what stands in their place (R232, R236, R237): no error traps, so every step gives a next
state, a refused op leaves a mark, an agent without a stimulus passes its turn (R240, R261, R263), a frame that goes
wrong leaves records (R235), and sleep gates nothing (R243). -/

namespace Sys2Proof.Machine

variable {s u : State} {ts : List Agent} {rs : List (List EventCode)}

/-! The steps that take nothing from a port, beside `step_intake`, `step_host` and `step_consumer`. -/

theorem step_of_no_turn (ht : s.turns = []) : step s = .next s := by
  simp [step, fetch, ht]

theorem step_intake_idle (ht : s.turns = .intake :: ts) (hp : s.rxPort = []) :
    step s = .next { s with turns := ts } := by
  simp [step, fetch, fetchByte, ht, hp]

theorem step_host_idle (ht : s.turns = .host :: ts) (hp : s.cmdPort = []) :
    step s = .next { s with turns := ts } := by
  simp [step, fetch, fetchCommand, ht, hp]

theorem step_consumer_idle (ht : s.turns = .consumer :: ts) (hp : s.popRequests = 0) :
    step s = .next { s with turns := ts } := by
  simp [step, fetch, fetchPop, ht, hp]

/-! What each operation of a frame leaves in the event stream (R17, R37). -/

@[simp] theorem txFrame_events (t : PacketType) (p : List Byte) (s : State) : (txFrame t p s).events = s.events := by
  rw [txFrame_eq]

@[simp] theorem sendLc_events (p : List Byte) (s : State) : (sendLc p s).events = s.events := txFrame_events _ p s

@[simp] theorem flushAck_events (s : State) : (flushAck s).events = s.events := by
  rw [flushAck_eq]
  split <;> rfl

@[simp] theorem resetIfActive_events (s : State) : (resetIfActive s).events = s.events := by
  unfold resetIfActive
  split <;> rfl

/-- An operation adds one of the listed runs of records and none beside it. -/
def AddsOneOf (rs : List (List EventCode)) (s u : State) : Prop := ∃ r, u.events = s.events ++ r ∧ r ∈ rs

theorem AddsOneOf.mono {rs' : List (List EventCode)} (hadds : AddsOneOf rs s u) (hsub : rs ⊆ rs') :
    AddsOneOf rs' s u := by
  obtain ⟨r, hevents, hr⟩ := hadds
  exact ⟨r, hevents, hsub hr⟩

/-- What surrounds an operation and adds no record of its own leaves the account as it is. -/
theorem AddsOneOf.congr {s' u' : State} (hadds : AddsOneOf rs s u) (hs : s.events = s'.events)
    (hu : u'.events = u.events) : AddsOneOf rs s' u' := by
  obtain ⟨r, hevents, hr⟩ := hadds
  exact ⟨r, by rw [hu, hevents, hs], hr⟩

theorem AddsOneOf.none (hevents : u.events = s.events) : AddsOneOf [[]] s u :=
  ⟨[], by rw [hevents, List.append_nil], List.mem_singleton_self _⟩

theorem addsOneOf_logRecord (e : EventCode) (s : State) : AddsOneOf [[e]] s (logRecord e s) :=
  ⟨[e], rfl, List.mem_singleton_self _⟩

theorem addsOneOf_fifoPush (f : List Byte) (s : State) : AddsOneOf [[], [.eFifoFull]] s (fifoPush f s) := by
  rcases fifoPush_cases f s with ⟨-, e⟩ | ⟨-, e⟩
  · exact ⟨[.eFifoFull], by rw [e], by decide⟩
  · exact ⟨[], by rw [e]; simp, by decide⟩

theorem addsOneOf_fireInit (s : State) : AddsOneOf [[], [.evInitComplete]] s (fireInit s) := by
  cases hfired : s.initFired with
  | true => exact ⟨[], by rw [fireInit_of_fired hfired]; simp, by decide⟩
  | false => exact ⟨[.evInitComplete], by rw [fireInit_of_clear hfired], by decide⟩

theorem addsOneOf_configResp (rest : List Byte) (s : State) : AddsOneOf [[], [.evInitComplete]] s (configResp rest s) :=
  (addsOneOf_fireInit { s with txWin := adoptedWindow rest s.txWin, linkState := .active }).congr rfl rfl

/-- Of the messages only CONFIG_RESP and an unknown payload have a record (R167, R172). -/
theorem addsOneOf_linkControl (p : List Byte) (s : State) :
    AddsOneOf [[], [.dUnknownLc], [.evInitComplete]] s (linkControl p s) := by
  have hsilent {u : State} (hevents : u.events = s.events) : AddsOneOf [[], [.dUnknownLc], [.evInitComplete]] s u :=
    (AddsOneOf.none hevents).mono (by decide)
  unfold linkControl
  cases lcMessage p with
  | syncReq => exact hsilent (by simp [syncReq])
  | syncResp => exact hsilent (by simp [syncResp])
  | configReq => exact hsilent (by simp [configReq])
  | configResp rest => exact (addsOneOf_configResp rest s).mono (by decide)
  | sleepReq => exact hsilent rfl
  | wokenReq => exact hsilent rfl
  | wakeupReq => exact hsilent (by simp [wakeupReq])
  | unknown => exact (addsOneOf_logRecord .dUnknownLc s).mono (by decide)

theorem addsOneOf_dropOutOfOrder (s : State) :
    AddsOneOf [[.wOutOfOrder], [.wOutOfOrder, .iResync]] s (dropOutOfOrder s) := by
  rcases dropOutOfOrder_cases s with ⟨-, e⟩ | ⟨-, e⟩
  · exact ⟨[.wOutOfOrder, .iResync], by rw [e], by decide⟩
  · exact ⟨[.wOutOfOrder], by rw [e], by decide⟩

/-- The records of one frame: none, one of a check that drops it, the out-of-order drop's with or without the resync,
or one of its dispatch (R235). -/
def frameRecords : List (List EventCode) :=
  [[], [.wChecksum], [.eLength], [.wNotActive], [.wOutOfOrder], [.wOutOfOrder, .iResync], [.eFifoFull], [.dUnknownLc],
    [.evInitComplete]]

/-- A frame leaves the pipeline at a check, at the sequencing, or through the dispatch of its type. -/
theorem addsOneOf_runFrame (t : PacketType) (h : FrameHeader) (p : List Byte) (s : State) :
    AddsOneOf frameRecords s (runFrame (packetClass t) h p s) := by
  obtain ⟨d, erun, hd⟩ := runFrame_pipeline t h p s
  have hdispatch (v : State) : AddsOneOf frameRecords v (d v) := by
    rcases hd with ⟨-, rfl⟩ | ⟨-, rfl⟩ | ⟨-, rfl⟩
    · exact (addsOneOf_fifoPush _ v).mono (by decide)
    · exact (addsOneOf_linkControl p v).mono (by decide)
    · exact (AddsOneOf.none rfl).mono (by decide)
  rw [erun]
  rcases pipeline_cases t h p d s with ⟨-, e⟩ | ⟨-, -, e⟩ | ⟨-, -, -, e⟩ | ⟨-, -, -, -, e⟩ | ⟨-, -, -, -, -, e⟩ |
    ⟨-, -, -, -, -, e⟩
  all_goals rw [e]
  · exact (addsOneOf_logRecord .wChecksum s).mono (by decide)
  · exact (addsOneOf_logRecord .eLength s).mono (by decide)
  · exact (addsOneOf_logRecord .wNotActive s).mono (by decide)
  · exact (hdispatch (recordAck h s)).congr rfl (flushAck_events _)
  · exact (hdispatch (recordAck h (acceptInOrder s))).congr rfl (flushAck_events _)
  · exact ((addsOneOf_dropOutOfOrder s).mono (by decide)).congr rfl (flushAck_events _)

/-! Sleep (R23, R243). -/

/-- The mask that hides `sleep_state` and keeps `rx_ack` and `tx_win`. -/
def maskSleep : Mask where
  sleep _ := .awake
  ack x := x
  win x := x
  sleep_idem _ := rfl
  ack_idem _ := rfl
  win_idem _ := rfl

theorem eq_with_of_maskSleep {s t : State} (h : t.masked maskSleep = s.masked maskSleep) :
    t = { s with sleepState := t.sleepState } := by
  calc t = { t.masked maskSleep with sleepState := t.sleepState } := rfl
    _ = { s.masked maskSleep with sleepState := t.sleepState } := by rw [h]
    _ = { s with sleepState := t.sleepState } := rfl

end Sys2Proof.Machine

namespace Sys2Proof.Proofs

open Sys2Proof.Machine

/-- Settles O54: a mask that hides the sleep state sees no difference between the two steps. -/
theorem sleepStateGatesNothing : Obligations.SleepStateGatesNothing := by
  intro s t x hstep
  obtain ⟨t', hstep', hsame⟩ :=
    exists_step_of_masked_eq (m := maskSleep) (s := s) (s' := { s with sleepState := x }) rfl hstep
  exact ⟨t'.sleepState, hstep'.trans (congrArg Host.Outcome.next (eq_with_of_maskSleep hsame))⟩

/-- Settles O32. -/
theorem frameAddsTheListedRecords : Obligations.FrameAddsTheListedRecords := by
  intro t h p s u hexec
  have hu : runFrame (packetClass t) h p s = u := Host.Outcome.next.inj ((exec_frameInstr _ h p s).symm.trans hexec)
  exact hu ▸ addsOneOf_runFrame t h p s

/-- Settles O44: each of the three ops runs `refuseCommand`, whatever its code. -/
theorem reservedOpsOnlySetTheMark : Obligations.ReservedOpsOnlySetTheMark := by
  intro s i hi
  simp only [List.mem_cons, List.not_mem_nil, or_false] at hi
  rcases hi with rfl | rfl | rfl <;> rfl

/-- Settles O48: one equation per turn with nothing to take. -/
theorem nothingHappensWithoutAStimulus : Obligations.NothingHappensWithoutAStimulus :=
  fun _ => ⟨step_of_no_turn, fun _ => step_intake_idle, fun _ => step_host_idle, fun _ => step_consumer_idle⟩

/-- Settles O52: every instruction answers a next state, and so does a turn with none. -/
theorem noStepStops : Obligations.NoStepStops := exists_step_next

end Sys2Proof.Proofs
end

section
/-! PROOFS. Reset and hazards (R262, R266, R272): the boot handshake as a sequence, a full FIFO behind the
acknowledgement, and an intake agent that STOP does not stop. -/

namespace Sys2Proof.Machine

variable {s t : State} {ts : List Agent}

/-! The boot sequence (R262): the four link-control frames on the wire, and the states between START and ACTIVE. -/

/-- A CONFIG_REQ holds one byte that is stuffed, its header checksum 0xC0; no window byte is (R77, R100). -/
theorem wire_configReq_window (w : Seq) : wire 15 false 0 0 [0x03, 0xFC, windowByte w] =
    [0xC0, 0x00, 0x3F, 0x00, 0xDB, 0xDC, 0x03, 0xFC, w.setWidth 8, 0xC0] := by
  revert w
  decide

theorem wire_syncResp : wire 15 false 0 0 syncRespPayload = [0xC0, 0x00, 0x2F, 0x00, 0xD0, 0x02, 0x7D, 0xC0] := by
  decide

theorem wire_configReq : wire 15 false 0 0 configReqPayload =
    [0xC0, 0x00, 0x3F, 0x00, 0xDB, 0xDC, 0x03, 0xFC, Config.advWin.setWidth 8, 0xC0] :=
  wire_configReq_window Config.advWin

theorem wire_configResp : wire 15 false 0 0 configRespPayload = [0xC0, 0x00, 0x2F, 0x00, 0xD0, 0x04, 0x7B, 0xC0] := by
  decide

/-- The block between START and ACTIVE: what START resets, the link state reached and the bytes sent since (R262). -/
def booting (ls : LinkState) (sent : List Byte) (s : State) : State :=
  { protocolReset s with running := true, linkState := ls, txStream := s.txStream ++ sent }

/-- While booting `tx_ack` is 0, and a transmission adds one frame to those sent. -/
theorem sendLc_booting (p : List Byte) (ls : LinkState) (sent : List Byte) (s : State) :
    sendLc p (booting ls sent s) = booting ls (sent ++ wire 15 false 0 0 p) s := by
  rw [sendLc_eq]
  simp [booting]

/-- The link is not ACTIVE when a SYNC message of the handshake comes, so there is no peer reset (R163, R164). -/
theorem resetIfActive_booting (sent : List Byte) (s : State) :
    resetIfActive (booting .uninit sent s) = booting .uninit sent s :=
  resetIfActive_of_not_active (by simp [booting])

theorem exec_cmdStart_booting (s : State) :
    exec .cmdStart s = .next (booting .uninit (wire 15 false 0 0 syncReqPayload) s) := by
  rw [exec_cmdStart, sendLc_eq]
  rfl

theorem exec_lcSyncReq_booting (rest sent : List Byte) (s : State) : exec (.lcSyncReq rest) (booting .uninit sent s) =
    .next (booting .uninit (sent ++ wire 15 false 0 0 syncRespPayload) s) := by
  rw [exec_lcSyncReq, resetIfActive_booting, sendLc_booting]

theorem exec_lcSyncResp_booting (rest sent : List Byte) (s : State) : exec (.lcSyncResp rest) (booting .uninit sent s) =
    .next (booting .init (sent ++ wire 15 false 0 0 configReqPayload) s) := by
  rw [exec_lcSyncResp, resetIfActive_booting]
  exact congrArg Host.Outcome.next (sendLc_booting _ .init sent s)

theorem exec_lcConfigReq_booting (rest : List Byte) (ls : LinkState) (sent : List Byte) (s : State) :
    exec (.lcConfigReq rest) (booting ls sent s) =
      .next (booting ls (sent ++ wire 15 false 0 0 configRespPayload ++ wire 15 false 0 0 configReqPayload) s) := by
  rw [exec_lcConfigReq, sendLc_booting, sendLc_booting]

/-- A CONFIG_RESP without a window byte ends the handshake with the window START gave, and notifies (R167). -/
theorem exec_lcConfigResp_booting (ls : LinkState) (sent : List Byte) (s : State) :
    exec (.lcConfigResp []) (booting ls sent s) = .next { booting .active sent s with
      initFired := true, events := s.events ++ [.evInitComplete] } := by
  rw [exec_lcConfigResp, fireInit_of_clear rfl]
  rfl

/-! The intake agent and `running` (R213, R272): every operation of a received byte commutes with setting `running`,
so it neither reads the register nor writes it. -/

/-- The state with another value of `running` (R31). -/
def State.setRunning (r : Bool) (s : State) : State := { s with running := r }

section

variable {r : Bool} {f g : State → State} {c : State → Prop}

/-- A choice that `running` has no part in. -/
theorem commute_ite [DecidablePred c] (hc : ∀ s, c (s.setRunning r) ↔ c s)
    (hf : Function.Commute f (State.setRunning r)) (hg : Function.Commute g (State.setRunning r)) :
    Function.Commute (fun s => if c s then f s else g s) (State.setRunning r) := by
  intro s
  by_cases h : c s
  · simp only [if_pos h, if_pos ((hc s).mpr h), hf s]
  · simp only [if_neg h, if_neg (mt (hc s).mp h), hg s]

theorem commute_txFrame (ty : PacketType) (p : List Byte) :
    Function.Commute (txFrame ty p) (State.setRunning r) := by
  intro s
  rw [txFrame_eq, txFrame_eq]
  rfl

theorem commute_sendLc (p : List Byte) : Function.Commute (sendLc p) (State.setRunning r) :=
  commute_txFrame linkControlType p

theorem commute_bufAppend (v : Byte) : Function.Commute (bufAppend v) (State.setRunning r) :=
  commute_ite (fun _ => .rfl) (fun _ => rfl) (fun _ => rfl)

theorem commute_fifoPush (l : List Byte) : Function.Commute (fifoPush l) (State.setRunning r) :=
  commute_ite (fun _ => .rfl) (fun _ => rfl) (fun _ => rfl)

theorem commute_dropOutOfOrder : Function.Commute dropOutOfOrder (State.setRunning r) :=
  commute_ite (fun _ => .rfl) (fun _ => by simp only [sendLc_eq]; rfl) (fun _ => rfl)

theorem commute_flushAck : Function.Commute flushAck (State.setRunning r) :=
  commute_ite (fun _ => .rfl) (fun _ => by rw [txFrame_eq, txFrame_eq]; rfl) (fun _ => rfl)

theorem commute_resetIfActive : Function.Commute resetIfActive (State.setRunning r) :=
  commute_ite (fun _ => .rfl) (fun _ => rfl) (fun _ => rfl)

theorem commute_fireInit : Function.Commute fireInit (State.setRunning r) :=
  commute_ite (fun _ => .rfl) (fun _ => rfl) (fun _ => rfl)

/-- No link-control message reads or writes `running` (R160). -/
theorem commute_linkControl (p : List Byte) : Function.Commute (linkControl p) (State.setRunning r) := by
  unfold linkControl
  cases lcMessage p with
  | syncReq => exact (commute_sendLc _).comp_left commute_resetIfActive
  | syncResp =>
    have hinit : Function.Commute (fun s => { s with linkState := .init }) (State.setRunning r) := fun _ => rfl
    exact (commute_sendLc _).comp_left (hinit.comp_left commute_resetIfActive)
  | configReq => exact (commute_sendLc _).comp_left (commute_sendLc _)
  | configResp rest =>
    exact fun s => commute_fireInit { s with txWin := adoptedWindow rest s.txWin, linkState := .active }
  | wakeupReq =>
    have hawake : Function.Commute (fun s => { s with sleepState := .awake }) (State.setRunning r) := fun _ => rfl
    exact hawake.comp_left (commute_sendLc _)
  | sleepReq | wokenReq | unknown => exact fun _ => rfl

theorem commute_sequenceFrame (h : FrameHeader) (hf : Function.Commute f (State.setRunning r)) :
    Function.Commute (sequenceFrame h f) (State.setRunning r) :=
  commute_ite (fun _ => .rfl)
    (commute_ite (fun _ => .rfl) (fun s => hf (recordAck h (acceptInOrder s))) commute_dropOutOfOrder)
    (fun s => hf (recordAck h s))

theorem commute_pipeline (ty : PacketType) (h : FrameHeader) (p : List Byte)
    (hf : Function.Commute f (State.setRunning r)) : Function.Commute (pipeline ty h p f) (State.setRunning r) :=
  commute_ite (fun _ => .rfl) (fun _ => rfl) <|
    commute_ite (fun _ => .rfl) (fun _ => rfl) <|
      commute_ite (fun _ => .rfl) (fun _ => rfl) <|
        commute_flushAck.comp_left (commute_sequenceFrame h hf)

theorem commute_processFrame (l : List Byte) : Function.Commute (processFrame l) (State.setRunning r) := by
  unfold processFrame
  split
  next h0 h1 h2 h3 p =>
    cases packetClass (packetTypeOf h1) with
    | ack | command | reserved => exact commute_pipeline _ _ p .id_left
    | acl | sco | event | iso => exact commute_pipeline _ _ p (commute_fifoPush _)
    | linkControl => exact commute_pipeline _ _ p (commute_linkControl p)
  next => exact fun _ => rfl

theorem commute_closeFrame : Function.Commute closeFrame (State.setRunning r) :=
  commute_ite (fun _ => .rfl) (fun _ => rfl) fun s => commute_processFrame (collectedFrame s) (parserToHunt s)

/-- Every row of a received byte is an operation that commutes with setting `running` (R103 to R108). -/
theorem exec_decodeRxByte_commute (ctx : RxContext) (b : Byte) (r : Bool) :
    ∃ f, Function.Commute f (State.setRunning r) ∧ ∀ s, exec (decodeRxByte ctx b) s = .next (f s) := by
  have hstore (v : Byte) : Function.Commute (fun s => bufAppend v { s with esc := false }) (State.setRunning r) :=
    fun s => commute_bufAppend v { s with esc := false }
  unfold decodeRxByte
  split
  · split
    · exact ⟨openFrame, fun _ => rfl, fun _ => rfl⟩
    · exact ⟨_, .id_left, fun _ => rfl⟩
  · split
    · exact ⟨_, hstore _, fun _ => rfl⟩
    split
    · exact ⟨_, hstore _, fun _ => rfl⟩
    · exact ⟨badEscape, fun _ => rfl, fun _ => rfl⟩
  · split
    · exact ⟨fun s => { s with esc := true }, fun _ => rfl, fun _ => rfl⟩
    split
    · exact ⟨_, commute_closeFrame, fun _ => rfl⟩
    · exact ⟨_, commute_bufAppend b, fun _ => rfl⟩

end

/-- The intake agent takes the same step with the other value of `running`, which stays in place (R272). -/
theorem step_setRunning_of_intake (r : Bool) (ht : s.turns = .intake :: ts) (hstep : step s = .next t) :
    step (s.setRunning r) = .next (t.setRunning r) := by
  cases hport : s.rxPort with
  | nil =>
    cases (step_intake_idle ht hport).symm.trans hstep
    exact step_intake_idle (s := s.setRunning r) ht hport
  | cons b bs =>
    obtain ⟨f, hcomm, hexec⟩ := exec_decodeRxByte_commute (rxContext s) b r
    cases ((step_intake ht hport).trans (hexec _)).symm.trans hstep
    calc step (s.setRunning r)
        = .next (f (State.setRunning r { s with turns := ts, rxPort := bs })) :=
          (step_intake (s := s.setRunning r) ht hport).trans (hexec _)
      _ = .next (State.setRunning r (f { s with turns := ts, rxPort := bs })) := by rw [hcomm.eq]

end Sys2Proof.Machine

namespace Sys2Proof.Proofs

open Sys2Proof.Machine

/-- Settles O24: the frame is accepted before the push finds the FIFO full, so its ACK goes out all the same. -/
theorem fullFifoDropsAnAcknowledgedFrame : Obligations.FullFifoDropsAnAcknowledgedFrame := by
  intro e he h p s hadm hr hseq hfull
  have ht : e.1 ∈ ([2, 3, 4, 5] : List PacketType) := List.mem_map_of_mem he
  obtain ⟨hqueued, hoverflow⟩ := queued_and_overflow_of_full (h := h) (p := p) ht hfull
  rw [exec_of_mem_payloadFrames he, hadm.pipeline_eq, sequenceFrame_of_inOrder fun _ => hseq,
    flushAck_fifoPush_accept hr ht, acceptedReliable, hqueued, hoverflow, List.append_nil]

/-- Settles O45: one `booting` state per message up to the CONFIG_RESP that ends the handshake. -/
theorem bootHandshakeReachesActive : Obligations.BootHandshakeReachesActive := by
  intro w s
  rw [execAll_cons_of_next (exec_cmdStart_booting s), execAll_cons_of_next (exec_lcSyncReq_booting [] _ s),
    execAll_cons_of_next (exec_lcSyncResp_booting [] _ s),
    execAll_cons_of_next (exec_lcConfigReq_booting [w] .init _ s),
    execAll_cons_of_next (exec_lcConfigResp_booting .init _ s),
    wire_syncReq, wire_syncResp, wire_configReq, wire_configResp]
  rfl

/-- Settles O56: setting `running` to the value it has changes nothing, so the step that commutes with it keeps it. -/
theorem intakeIgnoresRunning : Obligations.IntakeIgnoresRunning := by
  intro s t ts r ht hstep
  refine ⟨?kept, step_setRunning_of_intake r ht hstep⟩
  case kept =>
    have hsame : t = t.setRunning s.running :=
      Host.Outcome.next.inj (hstep.symm.trans (step_setRunning_of_intake s.running ht hstep))
    calc t.running
        = (t.setRunning s.running).running := congrArg State.running hsame
      _ = s.running := rfl

end Sys2Proof.Proofs
end

section
/-! PROOFS. Decoding and encoding undo each other (R70 to R77, R84): format by format, the row of a well-formed
instruction's word is that instruction, and the word of a decoded row is the word it was decoded from. -/

namespace Sys2Proof.Machine

variable {t : PacketType} {h : FrameHeader} {p : List Byte} {b : Byte}

/-! The word of an instruction decodes to it. -/

theorem decodeRxByte_hunt_of_ne (hend : b ≠ 0xC0) : decodeRxByte .hunt b = .rxbOtherHunt b := if_neg hend

theorem decodeRxByte_escaped_of_ne (hescEnd : b ≠ 0xDC) (hescEsc : b ≠ 0xDD) :
    decodeRxByte (.inFrame true) b = .rxbBadEscape b := (if_neg hescEnd).trans (if_neg hescEsc)

theorem decodeRxByte_inFrame_of_ne (hend : b ≠ 0xC0) (hesc : b ≠ 0xDB) :
    decodeRxByte (.inFrame false) b = .rxbData b := (if_neg hesc).trans (if_neg hend)

/-- A reserved type is in no class but its own (R75, R76). -/
theorem packetClass_of_isReservedType (hreserved : isReservedType t = true) : packetClass t = .reserved t := by
  revert t
  decide

/-- A frame decodes to the row of its packet class (R75, R80). -/
theorem decode_encodeFrame {k : PacketClass} (hclass : packetClass t = k) :
    decode (encodeFrame t h p) = .instr (frameInstr k h p) := hclass ▸ decodeFrame_headerBytes t h p

/-! The row a word decodes to encodes to that word. -/

theorem encode_decodeRxByte (ctx : RxContext) (b : Byte) : encode (decodeRxByte ctx b) = .rxByte ctx b := by
  fun_cases decodeRxByte ctx b <;> subst_vars <;> rfl

theorem encode_of_decodeTxSequence {bs : List Byte} {i : Instr} (hdec : decodeTxSequence bs = .instr i) :
    encode i = .txSequence bs := by
  unfold decodeTxSequence at hdec
  split at hdec
  next hend =>
    cases hdec
    exact congrArg Encoded.txSequence hend.symm
  next =>
    split at hdec
    next hesc =>
      cases hdec
      exact congrArg Encoded.txSequence hesc.symm
    next => cases hdec

/-- The row of a packet class is encoded with the type it is the class of (R75, R76). -/
theorem encode_frameInstr (t : PacketType) (h : FrameHeader) (p : List Byte) :
    encode (frameInstr (packetClass t) h p) = encodeFrame t h p := by
  rcases packetClass_cases t with ⟨rfl, e⟩ | ⟨rfl, e⟩ | ⟨rfl, e⟩ | ⟨rfl, e⟩ | ⟨rfl, e⟩ | ⟨rfl, e⟩ | ⟨rfl, e⟩ |
    ⟨-, e⟩ <;> rw [e] <;> rfl

theorem encode_of_decodeFrame {f : List Byte} {i : Instr} (hdec : decodeFrame f = .instr i) : encode i = .frame f := by
  match f, hdec with
  | h0 :: h1 :: h2 :: h3 :: p, hdec =>
    cases hdec
    rw [encode_frameInstr, encodeFrame, headerBytes_headerOf]
    rfl

/-- The signature of a message is the one its payload was matched by, and an unknown payload is kept whole (R77). -/
theorem encode_decodeLcPayload (p : List Byte) : encode (decodeLcPayload p) = .lcPayload p := by
  unfold decodeLcPayload
  fun_cases lcMessage p with
  | case8 | case9 => rfl
  | _ =>
    rename_i hsignature
    obtain ⟨rfl, rfl⟩ := hsignature
    rfl

end Sys2Proof.Machine

namespace Sys2Proof.Proofs

open Sys2Proof.Machine

/-- Settles O1: a row that a word names by itself is computed; the others are told apart by what well-formedness
asks of their byte, packet type or payload. -/
theorem decodeOfEncodeIsIdentity : Obligations.DecodeOfEncodeIsIdentity := by
  intro i hwf
  cases i with
  | rxbOtherHunt b => exact congrArg Decoded.instr (decodeRxByte_hunt_of_ne (bne_iff_ne.mp hwf))
  | rxbBadEscape b =>
    obtain ⟨hescEnd, hescEsc⟩ := Bool.and_eq_true_iff.mp hwf
    exact congrArg Decoded.instr (decodeRxByte_escaped_of_ne (bne_iff_ne.mp hescEnd) (bne_iff_ne.mp hescEsc))
  | rxbData b =>
    obtain ⟨hend, hesc⟩ := Bool.and_eq_true_iff.mp hwf
    exact congrArg Decoded.instr (decodeRxByte_inFrame_of_ne (bne_iff_ne.mp hend) (bne_iff_ne.mp hesc))
  | rxbEndHunt | rxbEsc | rxbEscEnd | rxbEscEsc | rxbEndFrame => rfl
  | txStuffEnd | txStuffEsc => rfl
  | frameAck h p | frameCommand h p | frameAcl h p | frameSco h p | frameEvent h p | frameIso h p
  | frameLinkControl h p => exact decode_encodeFrame rfl
  | frameReserved t h p =>
    obtain ⟨hreserved, -⟩ := Bool.and_eq_true_iff.mp hwf
    exact decode_encodeFrame (packetClass_of_isReservedType hreserved)
  | lcSyncReq rest | lcSyncResp rest | lcConfigReq rest | lcConfigResp rest | lcSleepReq rest | lcWokenReq rest
  | lcWakeupReq rest => rfl
  | lcUnknown p =>
    obtain ⟨hunknown, -⟩ := Bool.and_eq_true_iff.mp hwf
    exact congrArg Decoded.instr (decodeLcPayload_of_not_known ((Bool.not_eq_true' _).mp hunknown))
  | cmdReset | cmdStart | cmdStop | cmdSend t p | cmdPop | reservedOp101 | reservedOp110 | reservedOp111 => rfl

/-- Settles O2: one lemma per format; only a sequence and a frame can be rejected. -/
theorem encodeOfDecodeIsIdentity : Obligations.EncodeOfDecodeIsIdentity := by
  intro e i hnot hdec
  cases e with
  | rxByte ctx b => rw [← decode_rxByte_eq_instr_iff.mp hdec, encode_decodeRxByte]
  | txSequence bs => exact encode_of_decodeTxSequence hdec
  | frame f => exact encode_of_decodeFrame hdec
  | lcPayload p =>
    cases hdec
    exact encode_decodeLcPayload p
  | command c => exact absurd rfl (hnot c)

/-- Settles O3: each sample is the word of a well-formed instruction, so O1 decodes it. -/
theorem sampleWordsDecode : Obligations.SampleWordsDecode := by
  have hword := decodeOfEncodeIsIdentity
  refine ⟨hword .rxbEndHunt rfl, hword .rxbEscEnd rfl, hword .txStuffEsc rfl, ?acl, hword (.lcConfigResp [0x03]) rfl,
    hword .cmdPop rfl⟩
  case acl => exact hword (.frameAcl ⟨true, false, 0, 0, 3, 0x4D⟩ [0x01, 0x02, 0x03]) rfl

end Sys2Proof.Proofs
end

section
/-! PROOFS. What a received byte leaves as it was (R34, R106, R111), and the escapes the stuffer sends (R57, R100). -/

namespace Sys2Proof.Machine

variable {s t : State} {b : Byte}

/-- `BufAppend` puts its byte behind those already collected (R34, R106). -/
theorem collectedFrame_bufAppend (hwf : Memory.wf s.rxBuf = true) (hroom : s.rxLen.toNat < 4099) :
    collectedFrame (bufAppend b s) = collectedFrame s ++ [b] := by
  have hlen : (collect [b] s).rxLen.toNat = s.rxLen.toNat + 1 := collect_rxLen_toNat (B := [b]) hroom
  have hsame : readByte (writeByte s.rxBuf s.rxLen.toNat b) s.rxLen.toNat = b := readByte_writeByte_same hwf
  have hbefore : readBytes (writeByte s.rxBuf s.rxLen.toNat b) 0 s.rxLen.toNat = readBytes s.rxBuf 0 s.rxLen.toNat :=
    readBytes_congr _ _ _ _ fun a _ ha => readByte_writeByte_other (by omega)
  calc collectedFrame (bufAppend b s)
      = readBytes (writeByte s.rxBuf s.rxLen.toNat b) 0 (s.rxLen.toNat + 1) := by
        rw [bufAppend_eq_collect b hroom, collectedFrame, hlen]; rfl
    _ = collectedFrame s ++ [b] := by rw [readBytes_snoc, Nat.zero_add, hsame, hbefore, collectedFrame]

/-- Of all there is, only the parser and the event stream may differ (R111). -/
def WritesParserOnly (s t : State) : Prop :=
  t = { s with rxMode := t.rxMode, esc := t.esc, rxBuf := t.rxBuf, rxLen := t.rxLen, events := t.events }

theorem bufAppend_writesParserOnly (v : Byte) (s : State) : WritesParserOnly s (bufAppend v s) := by
  rcases bufAppend_cases v s with ⟨-, e⟩ | ⟨-, e⟩ <;> rw [e] <;> rfl

theorem exec_txStuffEnd (s : State) : exec .txStuffEnd s = .next (emit (encodeByte 0xC0) s) := rfl

theorem exec_txStuffEsc (s : State) : exec .txStuffEsc s = .next (emit (encodeByte 0xDB) s) := rfl

end Sys2Proof.Machine

namespace Sys2Proof.Proofs

open Sys2Proof.Machine

/-- Settles O15: a read at the index written gives the byte, and a read at any other what it gave before. -/
theorem collectedByteIsReadBack : Obligations.CollectedByteIsReadBack := by
  intro b s hwf hroom
  refine ⟨bufAppend b s, exec_rxbData b s, ?count, collectedFrame_bufAppend hwf hroom, fun a ha => ?others⟩
  case count =>
    rw [bufAppend_eq_collect b hroom]
    exact collect_rxLen_toNat (B := [b]) hroom
  case others =>
    rw [bufAppend_eq_collect b hroom]
    exact readByte_writeByte_other ha.symm

/-- Settles O17: the rows that collect a byte are `BufAppend`'s; each of the others writes parser fields or a record. -/
theorem slipLayerWritesOnlyTheParser : Obligations.SlipLayerWritesOnlyTheParser := by
  intro i s t hrow hexec
  simp only [List.mem_cons, List.not_mem_nil, or_false] at hrow
  rcases hrow with (rfl | rfl | rfl | rfl) | ⟨b, rfl | rfl | rfl⟩ <;> cases hexec
  case inl.inl | inl.inr.inl => rfl
  case inl.inr.inr.inl => exact bufAppend_writesParserOnly 0xC0 { s with esc := false }
  case inl.inr.inr.inr => exact bufAppend_writesParserOnly 0xDB { s with esc := false }
  case inr.inl | inr.inr.inl => rfl
  case inr.inr.inr => exact bufAppend_writesParserOnly b s

/-- Settles O19: the two rows emit what `encode_byte` gives for the reserved bytes. -/
theorem stufferSendsTheEscapes : Obligations.StufferSendsTheEscapes := by
  intro s
  rw [exec_txStuffEnd, exec_txStuffEsc, encodeByte_slipEnd, encodeByte_slipEsc]
  exact ⟨rfl, rfl⟩

end Sys2Proof.Proofs
end

section
/-! PROOFS. The accepted frames that have an effect beyond sequencing (R144, R147, R152, R160, R190, R191): a payload
frame is queued, a link-control frame runs its message. -/

namespace Sys2Proof.Machine

variable {t : PacketType} {h : FrameHeader} {p : List Byte} {s : State}

theorem accept_of_unreliable (hr : h.reliable = false) : accept h s = { s with rxAck := h.ack } := by
  simp [accept, hr, recordAck]

theorem accept_of_reliable (hr : h.reliable = true) :
    accept h s = { s with txAck := s.txAck + 1, oooCount := 0, ackOwed := true, rxAck := h.ack } := by
  simp [accept, hr, recordAck, acceptInOrder]

theorem flushAck_of_owed (howed : s.ackOwed = true) :
    flushAck s = { s with ackOwed := false, txStream := s.txStream ++ wire 0 false 0 s.txAck [] } := by
  rw [flushAck_eq, if_pos howed]

theorem flushAck_of_clear (hclear : s.ackOwed = false) : flushAck s = s := by
  simp [flushAck_eq, hclear]

/-- An admitted payload frame in order is pushed after it has been accepted (R140, R190). -/
theorem Admitted.exec_payload {e : PacketType × (FrameHeader → List Byte → Instr)} (hadm : Admitted e.1 h p s)
    (he : e ∈ payloadFrames) (hseq : h.reliable = true → h.seq = s.txAck) :
    exec (e.2 h p) s = .next (flushAck (fifoPush (headerBytes e.1 h ++ p) (accept h s))) := by
  rw [exec_of_mem_payloadFrames he, hadm.pipeline_eq, sequenceFrame_of_inOrder hseq]

@[simp] theorem fifoPush_ackOwed (f : List Byte) (s : State) : (fifoPush f s).ackOwed = s.ackOwed := by
  rcases fifoPush_cases f s with ⟨-, e⟩ | ⟨-, e⟩ <;> rw [e]

/-- An unreliable one does nothing after the push: it owes no ACK (R147, R149). -/
theorem Admitted.exec_unreliable_payload {e : PacketType × (FrameHeader → List Byte → Instr)}
    (hadm : Admitted e.1 h p s) (he : e ∈ payloadFrames) (hr : h.reliable = false) (hack : s.ackOwed = false) :
    exec (e.2 h p) s = .next (fifoPush (headerBytes e.1 h ++ p) { s with rxAck := h.ack }) := by
  rw [hadm.exec_payload he (by simp [hr]), accept_of_unreliable hr, flushAck_of_clear (by simpa using hack)]

@[simp] theorem linkControl_ackOwed (p : List Byte) (s : State) : (linkControl p s).ackOwed = s.ackOwed := by
  obtain ⟨ls, ss, a, b, c, w, o, i, dx, de, e, -⟩ := linkControl_effect p s
  rw [e]

/-- An admitted link-control frame in order runs its message after it has been accepted (R140, R160). -/
theorem Admitted.exec_linkControl (hadm : Admitted 15 h p s) (hseq : h.reliable = true → h.seq = s.txAck) :
    exec (.frameLinkControl h p) s = .next (flushAck (linkControl p (accept h s))) := by
  have hrun : exec (.frameLinkControl h p) s = .next (pipeline 15 h p (linkControl p) s) := rfl
  rw [hrun, hadm.pipeline_eq, sequenceFrame_of_inOrder hseq]

end Sys2Proof.Machine

namespace Sys2Proof.Proofs

open Sys2Proof.Machine

/-- Settles O23: the push finds room, and the ACK that follows it carries the advanced `tx_ack`. -/
theorem inOrderPayloadIsQueuedAndAcknowledged : Obligations.InOrderPayloadIsQueuedAndAcknowledged := by
  intro e he h p s hadm hr hseq hroom
  have ht : e.1 ∈ ([2, 3, 4, 5] : List PacketType) := List.mem_map_of_mem he
  obtain ⟨hqueued, hoverflow⟩ := queued_and_overflow_of_room (h := h) (p := p) ht hroom.ne
  rw [hadm.exec_payload he fun _ => hseq, flushAck_fifoPush_accept hr ht, acceptedReliable, hqueued, hoverflow,
    List.append_nil]

/-- Settles O25: an unreliable frame is accepted with no ACK owed, so the push is all that is left. -/
theorem unreliablePayloadIsQueued : Obligations.UnreliablePayloadIsQueued := by
  intro e he h p s hadm hr hack
  rw [hadm.exec_unreliable_payload he hr hack]
  exact ⟨fun hroom => congrArg _ (fifoPush_of_room hroom.ne), fun hfull => congrArg _ (fifoPush_of_full hfull)⟩

/-- Settles O28: the message runs on the accepted state and leaves `ack_owed` to the flush that ends the frame. -/
theorem linkControlFrameRunsItsMessage : Obligations.LinkControlFrameRunsItsMessage := by
  intro h p s hadm
  refine ⟨fun hr hack => ⟨_, exec_decodeLcPayload p _, ?unreliable⟩,
    fun hr hseq => ⟨_, exec_decodeLcPayload p _, ?reliable⟩⟩
  case unreliable =>
    rw [hadm.exec_linkControl (by simp [hr]), accept_of_unreliable hr, flushAck_of_clear (by simpa using hack)]
  case reliable =>
    rw [hadm.exec_linkControl fun _ => hseq, accept_of_reliable hr, flushAck_of_owed (by simp)]

end Sys2Proof.Proofs
end
